-- ==== Sys2Proof/Word.lean ====
section
/-! DEFINITION. The word types of the device: every register and bus value is 32 bits (R7), the FIFO
holds bytes (R33), an operation's selector has 16 bits, of which 14 are an offset or an event code (R81). -/

namespace Sys2Proof

/-- A register or bus value (R7). -/
abbrev Word := BitVec 32

/-- A received or transmitted character (R33, R49). -/
abbrev Byte := BitVec 8

/-- The selector of an operation (R81). -/
abbrev Selector := BitVec 16

/-- `OFF` or `EV`, bits 13:0 of a selector (R81). -/
abbrev Target := BitVec 14

end Sys2Proof
end

