-- ==== Sys2Proof/Config.lean ====
section
/-! DEFINITION. What the source leaves open: the parameters of R12, with the spec's defaults, and the free
values, opaque constants no proof can see through. -/

namespace Sys2Proof

/-- Fate of a character received while the receiver is disabled (R12, D14). -/
inductive RxWhileDisabled where
  | drop
  | enqueue
  deriving DecidableEq, Repr

/-- What a read of the Compare register returns (R12, D7). -/
inductive CmprReadback where
  | zero
  | stored
  deriving DecidableEq, Repr

/-- The parity types of the Mode register's PAR field (R144). `no` is the source's name for None. -/
inductive Parity where
  | even
  | odd
  | space
  | mark
  | no
  deriving DecidableEq, Repr

/-- The effective line parity setting (R144). -/
inductive LineParity where
  | even
  | odd
  | forcedLow
  | forcedHigh
  | none
  deriving DecidableEq, Repr

/-- The parameters of R12 that have a spec default. They are fixed for one device: no step writes them. -/
structure Params where
  /-- `RX_WHILE_DISABLED` (D14). -/
  rxWhileDisabled : RxWhileDisabled
  /-- `RSTRX_CLEARS_RXRDY` (D15). -/
  rstrxClearsRxrdy : Bool
  /-- `CMPR_READBACK` (D7). -/
  cmprReadback : CmprReadback
  /-- `PAR_CODE`: entry `n` is the parity type of PAR value `n`, `none` for an invalid value (R144, D12). -/
  parCode : Vector (Option Parity) 8
  /-- `LINE_ERROR_EVENTS`: whether the environment may deliver a line error (D16). -/
  lineErrorEvents : Bool
  deriving DecidableEq, Repr

/-- The table of R144: 0 Even, 1 Odd, 2 Space, 3 Mark, 4 None, 5 to 7 invalid. PRESUMED by the spec itself
(general knowledge, G2): unsafe, log entry 2. -/
def Params.defaultParCode : Vector (Option Parity) 8 :=
  #v[some .even, some .odd, some .space, some .mark, some .no, none, none, none]

/-- The defaults of R12. DESIGN CHOICE of the spec, unsafe for runs from reset: log entry 2. -/
def Params.default : Params where
  rxWhileDisabled := .drop
  rstrxClearsRxrdy := false
  cmprReadback := .zero
  parCode := Params.defaultParCode
  lineErrorEvents := true

/-- `UART_BASE`, the bus address of offset 0: any address the platform picks (R12, D5). Free: safe, log entry 6. -/
opaque Config.uartBase : Nat

/-- `emptyRhrValue`: the value of an RHR read with the receiver enabled and the FIFO empty, one for each draw
(R184, D13). Free: safe, log entry 5. -/
opaque Config.freeWord : Nat → Word

/-- Whether an optional diagnostic is emitted, one choice for each draw (R302, R305, D22). Free: safe, log
entry 5. -/
opaque Config.optionalDiag : Nat → Bool

end Sys2Proof
end

