-- ==== Sys2Proof/Syntax.lean ====
section
/-! DEFINITION. The operations of the device, one constructor per row of the operation map (R86). The
size operand SZ is no field here: an access whose SZ is not 32 is refused before the map is consulted
(R63, R86, R100). -/

namespace Sys2Proof

/-- An operation: a bus read, a bus write or a transport event (R80). -/
inductive Instr where
  /-- `R_CR`, read of Control (R104). -/
  | rCr
  /-- `R_MR`, read of Mode (R142). -/
  | rMr
  /-- `R_IER`, read of InterruptEnable (R104). -/
  | rIer
  /-- `R_IDR`, read of InterruptDisable (R104). -/
  | rIdr
  /-- `R_IMR`, read of InterruptMask (R222). -/
  | rImr
  /-- `R_CSR`, read of ChannelStatus (R160). -/
  | rCsr
  /-- `R_RHR`, read of ReceiveHolding (R180). -/
  | rRhr
  /-- `R_THR`, read of TransmitHolding (R104). -/
  | rThr
  /-- `R_CMPR`, read of Compare (R242). -/
  | rCmpr
  /-- `W_CR`, write to Control (R120). -/
  | wCr (v : Word)
  /-- `W_MR`, write to Mode (R141). -/
  | wMr (v : Word)
  /-- `W_IER`, write to InterruptEnable (R220). -/
  | wIer (v : Word)
  /-- `W_IDR`, write to InterruptDisable (R221). -/
  | wIdr (v : Word)
  /-- `W_IMR`, write to InterruptMask (R105). -/
  | wImr (v : Word)
  /-- `W_CSR`, write to ChannelStatus (R105). -/
  | wCsr (v : Word)
  /-- `W_RHR`, write to ReceiveHolding (R105). -/
  | wRhr (v : Word)
  /-- `W_THR`, write to TransmitHolding (R200). -/
  | wThr (v : Word)
  /-- `W_CMPR`, write to Compare (R240). -/
  | wCmpr (v : Word)
  /-- `EV_RXCHAR`, character received (R260). -/
  | evRxchar (b : Byte)
  /-- `EV_TXDRAINED`, transmit queue emptied (R261). -/
  | evTxdrained
  /-- `EV_QUERYLINE`, the transport reads the line parameters (R263). -/
  | evQueryline
  /-- `EV_LINEERROR`, line error: bit 0 overrun, bit 1 frame, bit 2 parity (R265). -/
  | evLineerror (m : BitVec 3)
  /-- `R_UNMAPPED`, read at an unrecognized offset (R103). -/
  | rUnmapped (off : Target)
  /-- `W_UNMAPPED`, write at an unrecognized offset (R103). -/
  | wUnmapped (off : Target) (v : Word)
  /-- `EV_RESERVED`, an event code other than 1 to 4 (R306). -/
  | evReserved (code : Target)
  /-- `K_RESERVED`, a selector of kind `11` (R306). -/
  | kReserved (low : Target)
  deriving DecidableEq, Repr

/-- The mnemonic of the operation map (R86). -/
def Instr.mnemonic : Instr → String
  | .rCr => "R_CR"
  | .rMr => "R_MR"
  | .rIer => "R_IER"
  | .rIdr => "R_IDR"
  | .rImr => "R_IMR"
  | .rCsr => "R_CSR"
  | .rRhr => "R_RHR"
  | .rThr => "R_THR"
  | .rCmpr => "R_CMPR"
  | .wCr _ => "W_CR"
  | .wMr _ => "W_MR"
  | .wIer _ => "W_IER"
  | .wIdr _ => "W_IDR"
  | .wImr _ => "W_IMR"
  | .wCsr _ => "W_CSR"
  | .wRhr _ => "W_RHR"
  | .wThr _ => "W_THR"
  | .wCmpr _ => "W_CMPR"
  | .evRxchar _ => "EV_RXCHAR"
  | .evTxdrained => "EV_TXDRAINED"
  | .evQueryline => "EV_QUERYLINE"
  | .evLineerror _ => "EV_LINEERROR"
  | .rUnmapped _ => "R_UNMAPPED"
  | .wUnmapped _ _ => "W_UNMAPPED"
  | .evReserved _ => "EV_RESERVED"
  | .kReserved _ => "K_RESERVED"

end Sys2Proof
end

