-- ==== Sys2Proof/Machine/Request.lean ====
section
/-! DEFINITION. What the two agents present to the device (R66, R80): a request, before it is decoded. -/

namespace Sys2Proof.Machine

/-- `SZ`, the bus access size (R82). -/
inductive AccessSize where
  | byte
  | half
  | word
  deriving DecidableEq, Repr

/-- The kind of an operation, bits 15:14 of its selector (R81). -/
inductive Kind where
  | busRead
  | busWrite
  | event
  | reserved
  deriving DecidableEq, Repr

/-- One operation as an agent presents it. -/
inductive Request where
  /-- The bus master reads at a bus address (R14, R60). -/
  | busRead (addr : Nat) (size : AccessSize)
  /-- The bus master writes at a bus address (R14, R60). -/
  | busWrite (addr : Nat) (size : AccessSize) (v : Word)
  /-- An operation given by its selector and its operands (R81, R82, R95). `operand` holds `v`, or `b` in
  bits 7:0, or `m` in bits 2:0. -/
  | operation (sel : Selector) (size : AccessSize) (operand : Word)
  deriving DecidableEq, Repr

/-- Why a request spells no operation. -/
inductive Rejection where
  /-- `SubWordAccess` (R63). -/
  | subWordAccess
  /-- `OutOfFootprint` (R62). -/
  | outOfFootprint
  deriving DecidableEq, Repr

/-- What the decoder answers. -/
inductive Decoded where
  | instr (i : Instr)
  | reject (r : Rejection)
  deriving DecidableEq, Repr

end Sys2Proof.Machine
end

