-- ==== Sys2Proof/WellFormed.lean ====
section
/-! DEFINITION. When an operation is one the operation map spells (R86): the catch-all rows take only
what no specific row took. -/

namespace Sys2Proof

/-- The nine offsets of the register map (R41). -/
def registerOffsets : List Target :=
  [0x00#14, 0x04#14, 0x08#14, 0x0C#14, 0x10#14, 0x14#14, 0x18#14, 0x1C#14, 0x24#14]

/-- The four event codes of R81. -/
def eventCodes : List Target := [1#14, 2#14, 3#14, 4#14]

/-- An unrecognized offset is none of the nine (R103); a reserved event code is none of the four (R306).
Every other operation is well formed as it stands. -/
def Instr.wf : Instr → Bool
  | .rUnmapped off => !registerOffsets.contains off
  | .wUnmapped off _ => !registerOffsets.contains off
  | .evReserved code => !eventCodes.contains code
  | .rCr | .rMr | .rIer | .rIdr | .rImr | .rCsr | .rRhr | .rThr | .rCmpr
  | .wCr _ | .wMr _ | .wIer _ | .wIdr _ | .wImr _ | .wCsr _ | .wRhr _ | .wThr _ | .wCmpr _
  | .evRxchar _ | .evTxdrained | .evQueryline | .evLineerror _ | .kReserved _ => true

/-- `i` is an operation of the map (R86). -/
abbrev Instr.WellFormed (i : Instr) : Prop := i.wf = true

end Sys2Proof
end

