-- ==== Sys2Proof/Decode.lean ====
section
/-! DEFINITION. The decoder, total on every request, and the encoder, both from the selector layout of R81, the
operands of R82 and the operation map of R86. -/

namespace Sys2Proof

open Sys2Proof.Machine (AccessSize Kind Request Rejection Decoded)

/-! ### The selector (R81) -/

/-- The code of a kind, the `K` field (R81). -/
def kindCode : Kind → BitVec 2
  | .busRead => 0b00#2
  | .busWrite => 0b01#2
  | .event => 0b10#2
  | .reserved => 0b11#2

/-- A selector from its kind and its `OFF` or `EV` field (R81). -/
def mkSelector (k : Kind) (t : Target) : Selector := kindCode k ++ t

/-- The `K` field, bits 15:14 (R81). -/
def selectorKind (sel : Selector) : Kind :=
  match sel.getLsbD 15, sel.getLsbD 14 with
  | false, false => .busRead
  | false, true => .busWrite
  | true, false => .event
  | true, true => .reserved

/-- The `OFF` or `EV` field, bits 13:0 (R81). -/
def selectorTarget (sel : Selector) : Target := sel.extractLsb' 0 14

/-! ### The operation map (R86) -/

/-- The specific rows of R86, in its order: the selector and the operation it spells with its operand. -/
def specificRows : List (Selector × (Word → Instr)) :=
  [ (0x0000#16, fun _ => .rCr),
    (0x0004#16, fun _ => .rMr),
    (0x0008#16, fun _ => .rIer),
    (0x000C#16, fun _ => .rIdr),
    (0x0010#16, fun _ => .rImr),
    (0x0014#16, fun _ => .rCsr),
    (0x0018#16, fun _ => .rRhr),
    (0x001C#16, fun _ => .rThr),
    (0x0024#16, fun _ => .rCmpr),
    (0x4000#16, .wCr),
    (0x4004#16, .wMr),
    (0x4008#16, .wIer),
    (0x400C#16, .wIdr),
    (0x4010#16, .wImr),
    (0x4014#16, .wCsr),
    (0x4018#16, .wRhr),
    (0x401C#16, .wThr),
    (0x4024#16, .wCmpr),
    (0x8001#16, fun x => .evRxchar (x.extractLsb' 0 8)),
    (0x8002#16, fun _ => .evTxdrained),
    (0x8003#16, fun _ => .evQueryline),
    (0x8004#16, fun x => .evLineerror (x.extractLsb' 0 3)) ]

/-- The catch-all rows of R86: one for each kind. -/
def catchAllRow (sel : Selector) (operand : Word) : Instr :=
  match selectorKind sel with
  | .busRead => .rUnmapped (selectorTarget sel)
  | .busWrite => .wUnmapped (selectorTarget sel) operand
  | .event => .evReserved (selectorTarget sel)
  | .reserved => .kReserved (selectorTarget sel)

/-- The first row that matches (R86): a specific row, else the catch-all row of the kind. -/
def decodeSelector (sel : Selector) (operand : Word) : Instr :=
  match specificRows.find? (fun row => row.1 == sel) with
  | some row => row.2 operand
  | none => catchAllRow sel operand

/-! ### Requests (R100) -/

/-- `SZ` bears on a bus operation only (R82), and only 32 is admitted (R63). -/
def sizeAdmitted (k : Kind) (size : AccessSize) : Bool :=
  match k with
  | .busRead | .busWrite => size == .word
  | .event | .reserved => true

/-- The offset a bus address reaches, if it lies in the footprint of 0x4000 bytes at `UART_BASE` (R8, R60). An
address below the base is outside it too (DEDUCED, safe: log entry 6). -/
def busOffset (addr : Nat) : Option Target :=
  if Config.uartBase ≤ addr ∧ addr - Config.uartBase < 0x4000 then
    some (BitVec.ofNat 14 (addr - Config.uartBase))
  else none

/-- A bus master's access: first the size, then the footprint, then the map (R100). -/
def decodeAccess (k : Kind) (addr : Nat) (size : AccessSize) (v : Word) : Decoded :=
  if sizeAdmitted k size then
    match busOffset addr with
    | some off => .instr (decodeSelector (mkSelector k off) v)
    | none => .reject .outOfFootprint
  else .reject .subWordAccess

/-- The decoder, total on every request. -/
def decode : Request → Decoded
  | .busRead addr size => decodeAccess .busRead addr size 0
  | .busWrite addr size v => decodeAccess .busWrite addr size v
  | .operation sel size operand =>
    if sizeAdmitted (selectorKind sel) size then .instr (decodeSelector sel operand)
    else .reject .subWordAccess

/-! ### The host's numbering of the opcode table -/

/-- The request whose bits are `w`: bits 15:0 the selector, bits 47:16 the operand, every bit from `nbits` on
zero, and `SZ` = 32 (the table gives SZ no bits: log entry 9). -/
def requestOfBits (nbits w : Nat) : Request :=
  .operation (BitVec.ofNat 16 (w % 2 ^ nbits)) .word (BitVec.ofNat 32 (w % 2 ^ nbits / 2 ^ 16))

/-- What the decoder reads from the row's word. -/
def decodeTableWord (nbits w : Nat) : Option Instr :=
  match decode (requestOfBits nbits w) with
  | .instr i => some i
  | .reject _ => none

/-! ### The encoder -/

/-- The kind of an operation (R81). -/
def Instr.kind : Instr → Kind
  | .rCr | .rMr | .rIer | .rIdr | .rImr | .rCsr | .rRhr | .rThr | .rCmpr | .rUnmapped _ => .busRead
  | .wCr _ | .wMr _ | .wIer _ | .wIdr _ | .wImr _ | .wCsr _ | .wRhr _ | .wThr _ | .wCmpr _
  | .wUnmapped _ _ => .busWrite
  | .evRxchar _ | .evTxdrained | .evQueryline | .evLineerror _ | .evReserved _ => .event
  | .kReserved _ => .reserved

/-- The `OFF` or `EV` field of an operation: the register's offset (R41) or the event's code (R81). -/
def Instr.target : Instr → Target
  | .rCr | .wCr _ => 0x00#14
  | .rMr | .wMr _ => 0x04#14
  | .rIer | .wIer _ => 0x08#14
  | .rIdr | .wIdr _ => 0x0C#14
  | .rImr | .wImr _ => 0x10#14
  | .rCsr | .wCsr _ => 0x14#14
  | .rRhr | .wRhr _ => 0x18#14
  | .rThr | .wThr _ => 0x1C#14
  | .rCmpr | .wCmpr _ => 0x24#14
  | .evRxchar _ => 0x0001#14
  | .evTxdrained => 0x0002#14
  | .evQueryline => 0x0003#14
  | .evLineerror _ => 0x0004#14
  | .rUnmapped off => off
  | .wUnmapped off _ => off
  | .evReserved code => code
  | .kReserved low => low

/-- The operand of an operation as a 32-bit word (R82), zero where it has none. -/
def Instr.operand : Instr → Word
  | .wCr v | .wMr v | .wIer v | .wIdr v | .wImr v | .wCsr v | .wRhr v | .wThr v | .wCmpr v => v
  | .wUnmapped _ v => v
  | .evRxchar b => b.setWidth 32
  | .evLineerror m => m.setWidth 32
  | .rCr | .rMr | .rIer | .rIdr | .rImr | .rCsr | .rRhr | .rThr | .rCmpr | .rUnmapped _
  | .evTxdrained | .evQueryline | .evReserved _ | .kReserved _ => 0

/-- The selector of an operation: the map's match value for a specific row, the kind and the field for a catch-all row
(R81, R86). -/
def Instr.selector : Instr → Selector
  | .rCr => 0x0000#16
  | .rMr => 0x0004#16
  | .rIer => 0x0008#16
  | .rIdr => 0x000C#16
  | .rImr => 0x0010#16
  | .rCsr => 0x0014#16
  | .rRhr => 0x0018#16
  | .rThr => 0x001C#16
  | .rCmpr => 0x0024#16
  | .wCr _ => 0x4000#16
  | .wMr _ => 0x4004#16
  | .wIer _ => 0x4008#16
  | .wIdr _ => 0x400C#16
  | .wImr _ => 0x4010#16
  | .wCsr _ => 0x4014#16
  | .wRhr _ => 0x4018#16
  | .wThr _ => 0x401C#16
  | .wCmpr _ => 0x4024#16
  | .evRxchar _ => 0x8001#16
  | .evTxdrained => 0x8002#16
  | .evQueryline => 0x8003#16
  | .evLineerror _ => 0x8004#16
  | .rUnmapped off => mkSelector .busRead off
  | .wUnmapped off _ => mkSelector .busWrite off
  | .evReserved code => mkSelector .event code
  | .kReserved low => mkSelector .reserved low

/-- An operation as the request that spells it, with `SZ` = 32 (R81, R82, R95). -/
def encode (i : Instr) : Request := .operation i.selector .word i.operand

end Sys2Proof
end

