-- ==== Sys2Proof/Machine/State.lean ====
section
/-! DEFINITION. The state of the device (R22), the machine's state around it, the reasons a step stops, and the
state after reset (R53, R340). -/

namespace Sys2Proof.Machine

/-- The fault codes of R302. -/
inductive FaultCode where
  /-- `F_PARITY_INVALID`: a line query with an unmapped PAR value (R263, R303). -/
  | parityInvalid
  deriving DecidableEq, Repr

/-- The state of the device: the record of R22, which has no other state. -/
structure Device where
  /-- Gates the receive path (R23). -/
  receiverEnabled : Bool
  /-- Gates the transmit path; CSR.TXRDY (R24). -/
  transmitterEnabled : Bool
  /-- Latched: an unread character is available; CSR.RXRDY (R25). -/
  receiverReady : Bool
  /-- IMR.RXRDY (R26). -/
  receiverReadyIrqEnabled : Bool
  /-- IMR.TXRDY (R27). -/
  transmitterReadyIrqEnabled : Bool
  /-- CSR.PARE (R28). -/
  parityError : Bool
  /-- CSR.FRAME (R28). -/
  frameError : Bool
  /-- CSR.OVRE (R28). -/
  overrunError : Bool
  /-- CSR.CMP (R29). -/
  compareSucceeded : Bool
  /-- MR.PAR (R30). -/
  parRaw : BitVec 3
  /-- MR.MODE (R31). -/
  modeSel : BitVec 4
  /-- CMPR.CMPMODE (R32). -/
  compareModeEnable : Bool
  /-- CMPR.VAL1 (R32). -/
  compareVal1 : Byte
  /-- CMPR.VAL2 (R32). -/
  compareVal2 : Byte
  /-- The receive FIFO, head first, of unbounded capacity (R33, R36, R9). -/
  fifo : List Byte
  /-- The level of the IRQ output (R34). -/
  irqLine : Bool
  /-- None, or the code of the fatal fault (R35). -/
  faulted : Option FaultCode
  deriving DecidableEq, Repr

/-- The line parameters the transport reads (R11, R263). -/
structure LineParams where
  baud : Nat
  stopBits : Nat
  parity : Parity
  deriving DecidableEq, Repr

/-- What an operation returns (R82): a bus read a 32-bit value, `QueryLine` the line parameters, the others
nothing. -/
inductive Response where
  | nothing
  | word (v : Word)
  | line (p : LineParams)
  deriving DecidableEq, Repr

/-- The diagnostic codes of R302. -/
inductive Diag where
  /-- `DG_EMPTY_RHR`, always emitted (R184). -/
  | emptyRhr
  /-- `DG_MODE_NONZERO`, always emitted (R141). -/
  | modeNonzero
  /-- `DG_UNMAPPED`, optional (R103). -/
  | unmapped
  /-- `DG_TAGGED`, optional (R106). -/
  | tagged
  /-- `DG_RX_DROPPED`, optional (R260). -/
  | rxDropped
  deriving DecidableEq, Repr

/-- The output events (R14): a byte handed to the transport (R201), an advisory diagnostic (R305). -/
inductive Output where
  | txByte (b : Byte)
  | diag (d : Diag)
  deriving DecidableEq, Repr

/-- The machine: the device, its fixed parameters, and the model's own fields around them. -/
structure State where
  /-- The device's state (R22). -/
  dev : Device
  /-- The parameters of R12: no step writes them. -/
  params : Params
  /-- The operations the agents present, in the order of the lock (R66, R68). The model's own: log entry 3. -/
  pending : List Request
  /-- What the last operation returned (R82). The model's own: log entry 4. -/
  response : Response
  /-- The output events so far, oldest first (R14, R201, R305). The model's own: log entry 4. -/
  outputs : List Output
  /-- How many free values have been drawn (R184, R302). The model's own: log entry 5. -/
  draws : Nat
  deriving DecidableEq, Repr

/-- The fault a step stops with. -/
inductive Fault where
  /-- No operation has a step once the device is faulted (R303, D23, D30). Raised by every operation and by
  `step` in a state whose `faulted` is `code`. Safe: the model stops where the source says no more. -/
  | stuck (code : FaultCode)
  deriving DecidableEq, Repr

/-- The refusals: requests and operations to which the spec gives no meaning (R306). -/
inductive Refusal where
  /-- An operation the model gives no meaning yet. Raised by `exec`'s refused arms; none is left. Safe. -/
  | notModelled (mnemonic : String)
  /-- `SubWordAccess`: a bus access whose SZ is not 32 (R63, R306). Raised by `step`. Safe. -/
  | subWordAccess
  /-- `OutOfFootprint`: a bus access outside the 0x4000 bytes of the device (R62, R306). Raised by `step`. Safe. -/
  | outOfFootprint
  /-- `ReservedKind`: a selector of kind `11` (R306). Raised by `K_RESERVED`. Safe. -/
  | reservedKind
  /-- `ReservedEvent`: an event code other than 1 to 4 (R306). Raised by `EV_RESERVED`. Safe. -/
  | reservedEvent
  /-- A line error where `LINE_ERROR_EVENTS` is false: the environment does not offer the event (R265, D16).
  Raised by `EV_LINEERROR`. Safe; log entry 10. -/
  | lineErrorNotOffered
  deriving DecidableEq, Repr

/-- The device at construction (R53, R340). The fields of D18 are the spec's decision: unsafe, log entry 1. -/
def Device.reset : Device where
  receiverEnabled := false
  transmitterEnabled := false
  receiverReady := false
  receiverReadyIrqEnabled := false
  transmitterReadyIrqEnabled := false
  parityError := false
  frameError := false
  overrunError := false
  compareSucceeded := false
  parRaw := 0#3
  modeSel := 0#4
  compareModeEnable := false
  compareVal1 := 0x00#8
  compareVal2 := 0x00#8
  fifo := []
  irqLine := false
  faulted := none

/-- The machine at construction: the device of R53, the default parameters of R12 (log entry 2), no operation
presented yet, nothing returned and nothing emitted (DESIGN CHOICE, log entries 3, 4 and 5). -/
def State.reset : State where
  dev := Device.reset
  params := Params.default
  pending := []
  response := .nothing
  outputs := []
  draws := 0

end Sys2Proof.Machine
end

