-- ==== Sys2Proof/Machine/Flags.lean ====
section
/-! DEFINITION. Every flag computation: the IRQ function (R226), the byte-compare match (R183), the values a read
composes from the fields (R84, R85), and the decode of the parity field (R144). -/

namespace Sys2Proof.Machine

/-- `irqFn`, of exactly five booleans (R226). -/
def irqFn (d : Device) : Bool :=
  (d.receiverEnabled && d.receiverReadyIrqEnabled && d.receiverReady)
    || (d.transmitterEnabled && d.transmitterReadyIrqEnabled)

/-- Whether a popped byte is in the inclusive compare range, unsigned, with compare mode on (R183). -/
def compareMatches (d : Device) (b : Byte) : Bool :=
  d.compareModeEnable && d.compareVal1.ule b && b.ule d.compareVal2

/-- `b(x) << i` (R13): a one-bit field at position `i`. -/
def flagAt (x : Bool) (i : Nat) : Word := (if x then 1#32 else 0#32) <<< i

/-- The value of a Mode read (R142): tagged fields and undeclared bits read 0 (R40, R106). -/
def modeValue (d : Device) : Word := d.modeSel.setWidth 32 ||| (d.parRaw.setWidth 32 <<< 9)

/-- The value of an InterruptMask read (R222). -/
def maskValue (d : Device) : Word :=
  flagAt d.receiverReadyIrqEnabled 0 ||| flagAt d.transmitterReadyIrqEnabled 1

/-- The value of a ChannelStatus read (R160). -/
def statusValue (d : Device) : Word :=
  flagAt d.receiverReady 0 ||| flagAt d.transmitterEnabled 1 ||| flagAt d.overrunError 5
    ||| flagAt d.frameError 6 ||| flagAt d.parityError 7 ||| flagAt d.compareSucceeded 15

/-- The value of a Compare read (R242, parameter `CMPR_READBACK`). -/
def compareValue (p : Params) (d : Device) : Word :=
  match p.cmprReadback with
  | .zero => 0#32
  | .stored =>
    d.compareVal1.setWidth 32 ||| flagAt d.compareModeEnable 12 ||| (d.compareVal2.setWidth 32 <<< 16)

/-- `PAR_CODE(n)`: the parity type of a PAR value, `none` if it is invalid (R13, R144). -/
def parityOf (p : Params) (n : BitVec 3) : Option Parity := p.parCode[n.toNat]'n.isLt

/-- The effective line setting of a parity type (R144). -/
def effectiveParity : Parity → LineParity
  | .even => .even
  | .odd => .odd
  | .space => .forcedLow
  | .mark => .forcedHigh
  | .no => .none

end Sys2Proof.Machine
end

