-- ==== Sys2Proof/Machine/Ops.lean ====
section
/-! DEFINITION. The named operations over the state that the meanings share: the recomputation of the IRQ (R226), the
output events (R14), the response (R82), the FIFO (R36), the fatal fault (R303) and the fetch of the next operation. -/

namespace Sys2Proof.Machine

/-- The outcome of an operation. -/
abbrev Result := Host.Outcome State Fault Refusal

/-- `recomputeIrq()` (R226). -/
def Device.recomputeIrq (d : Device) : Device := { d with irqLine := irqFn d }

/-- Replace the device's state. -/
def State.setDev (s : State) (d : Device) : State := { s with dev := d }

/-- `return r` (R14, R82). -/
def State.answer (s : State) (r : Response) : State := { s with response := r }

/-- `emit TxByte(b)` (R14, R201). -/
def State.emitTx (s : State) (b : Byte) : State := { s with outputs := s.outputs ++ [.txByte b] }

/-- `emit Diag(d)` (R14, R305). -/
def State.emitDiag (s : State) (d : Diag) : State := { s with outputs := s.outputs ++ [.diag d] }

/-- `optionally emit Diag(d)` (R302, R305): a free choice decides. -/
def State.optionalDiag (s : State) (d : Diag) : State :=
  { s with
    outputs := s.outputs ++ (if Config.optionalDiag s.draws then [.diag d] else [])
    draws := s.draws + 1 }

/-- Mark the current free value as drawn; its value is `Config.freeWord` at the counter before (R184, D13). -/
def State.draw (s : State) : State := { s with draws := s.draws + 1 }

/-- `fifo.push(b)` and the latch it sets (R33, R25, R260). -/
def Device.push (d : Device) (b : Byte) : Device :=
  { d with fifo := d.fifo ++ [b], receiverReady := true }

/-- What is left of the device after the head `b` has been removed and `rest` remains: the latch falls with the
last byte (R182), and a byte in the compare range is recorded (R183). -/
def Device.popped (d : Device) (b : Byte) (rest : List Byte) : Device :=
  { d with
    fifo := rest
    receiverReady := if rest.isEmpty then false else d.receiverReady
    compareSucceeded := if compareMatches d b then true else d.compareSucceeded }

/-- `raise Fault(code)`: enter the faulted state; nothing else of the device changes (R303). The source gives no
return from it. -/
def Device.raiseFault (d : Device) (code : FaultCode) : Device := { d with faulted := some code }

/-- The first check of every operation: once the device is faulted, no operation has a step (R100, R303, D30). -/
def whenRunning (s : State) (k : State → Result) : Result :=
  match s.dev.faulted with
  | some code => .fault (.stuck code)
  | none => k s

/-- An operation that is a bus read returning `v` with no side effect. -/
def readOnly (v : State → Word) (s : State) : Result :=
  whenRunning s fun s => .next (s.answer (.word (v s)))

/-- A write that changes nothing and returns nothing. -/
def ignoredWrite (s : State) : Result :=
  whenRunning s fun s => .next (s.answer .nothing)

/-- The refusal of a request the decoder rejects (R62, R63, R306). -/
def rejection : Rejection → Refusal
  | .subWordAccess => .subWordAccess
  | .outOfFootprint => .outOfFootprint

/-- The next operation: run `onInstr` on the decoded operation and the state without its request, refuse what spells
no operation, and change nothing where no agent has presented one (R21, log entry 3). -/
def fetch (s : State) (onInstr : Instr → State → Result) : Result :=
  match s.pending with
  | [] => .next s
  | r :: rest =>
    match decode r with
    | .instr i => onInstr i { s with pending := rest }
    | .reject e => .refused (rejection e)

end Sys2Proof.Machine
end

