-- ==== Sys2Proof/Machine/ChannelStatus.lean ====
section
/-! DEFINITION. The Channel Status register (43_channel_status.md). -/

namespace Sys2Proof.Machine

/-- `R_CSR` (R160). -/
def execRCsr (s : State) : Result := readOnly (fun s => statusValue s.dev) s

end Sys2Proof.Machine
end

