-- ==== Sys2Proof/Machine/Operands.lean ====
section
/-! DEFINITION. Operand assembly (R83, R85): the fields a bus write of each register is taken apart into, and the
operands of the line-error event. -/

namespace Sys2Proof.Machine

/-- `bit(v, i)` (R13). -/
abbrev bit (v : Word) (i : Nat) : Bool := v.getLsbD i

/-! ### Control (R42, R85) -/

abbrev CR.rstrx (v : Word) : Bool := bit v 2
abbrev CR.rsttx (v : Word) : Bool := bit v 3
abbrev CR.rxen (v : Word) : Bool := bit v 4
abbrev CR.rxdis (v : Word) : Bool := bit v 5
abbrev CR.txen (v : Word) : Bool := bit v 6
abbrev CR.txdis (v : Word) : Bool := bit v 7
abbrev CR.rststa (v : Word) : Bool := bit v 8

/-! ### Mode (R43, R85); FILTER, BRSRCCK and CHMODE are tagged and store nothing (R106) -/

abbrev MR.mode (v : Word) : BitVec 4 := v.extractLsb' 0 4
abbrev MR.par (v : Word) : BitVec 3 := v.extractLsb' 9 3

/-! ### InterruptEnable and InterruptDisable (R44, R45, R85) -/

abbrev IMR.rxrdy (v : Word) : Bool := bit v 0
abbrev IMR.txrdy (v : Word) : Bool := bit v 1

/-! ### TransmitHolding (R49, R85); TXSYNH is tagged -/

abbrev THR.txchr (v : Word) : Byte := v.extractLsb' 0 8

/-! ### Compare (R50, R85); CMPPAR is tagged -/

abbrev CMPR.val1 (v : Word) : Byte := v.extractLsb' 0 8
abbrev CMPR.cmpmode (v : Word) : Bool := bit v 12
abbrev CMPR.val2 (v : Word) : Byte := v.extractLsb' 16 8

/-! ### The line-error event (R82, R265) -/

abbrev LineError.overrun (m : BitVec 3) : Bool := m.getLsbD 0
abbrev LineError.frame (m : BitVec 3) : Bool := m.getLsbD 1
abbrev LineError.parity (m : BitVec 3) : Bool := m.getLsbD 2

end Sys2Proof.Machine
end

