-- ==== Sys2Proof/Machine/Compare.lean ====
section
/-! DEFINITION. The Compare register (47_compare.md). -/

namespace Sys2Proof.Machine

/-- The three fields every Compare write stores (R240, D32). -/
def compareWrite (v : Word) (d : Device) : Device :=
  { d with compareVal1 := CMPR.val1 v, compareModeEnable := CMPR.cmpmode v, compareVal2 := CMPR.val2 v }

/-- `W_CMPR` (R240): no recomputation; the write passes the tagged field CMPPAR (R106). -/
def execWCmpr (v : Word) (s : State) : Result :=
  whenRunning s fun s => .next (((s.setDev (compareWrite v s.dev)).optionalDiag .tagged).answer .nothing)

/-- `R_CMPR` (R242). -/
def execRCmpr (s : State) : Result := readOnly (fun s => compareValue s.params s.dev) s

end Sys2Proof.Machine
end

