-- ==== Sys2Proof/Machine/Control.lean ====
section
/-! DEFINITION. The Control register (41_control.md): the four steps of a Control write, in the order of R120. -/

namespace Sys2Proof.Machine

/-- Step (1) of R120: receiver reset. -/
def controlReceiverReset (p : Params) (v : Word) (d : Device) : Device :=
  if CR.rstrx v then
    { d with
      fifo := []
      receiverEnabled := false
      receiverReady := if p.rstrxClearsRxrdy then false else d.receiverReady }
  else d

/-- Step (2) of R120: RXEN, and RXDIS only in its `else`. -/
def controlReceiverEnable (v : Word) (d : Device) : Device :=
  if CR.rxen v then { d with receiverEnabled := true }
  else if CR.rxdis v then { d with receiverEnabled := false }
  else d

/-- Step (3) of R120: the transmitter. -/
def controlTransmitter (v : Word) (d : Device) : Device :=
  if CR.txdis v || (CR.rsttx v && !CR.txen v) then { d with transmitterEnabled := false }
  else if CR.txen v then { d with transmitterEnabled := true }
  else d

/-- Step (4) of R120: status reset (R123). -/
def controlStatusReset (v : Word) (d : Device) : Device :=
  if CR.rststa v then
    { d with parityError := false, frameError := false, compareSucceeded := false, overrunError := false }
  else d

/-- The four steps of R120 and the recomputation. REQCLR has no effect (R124). -/
def controlWrite (p : Params) (v : Word) (d : Device) : Device :=
  (controlStatusReset v (controlTransmitter v (controlReceiverEnable v
    (controlReceiverReset p v d)))).recomputeIrq

/-- `W_CR` (R120). -/
def execWCr (v : Word) (s : State) : Result :=
  whenRunning s fun s => .next ((s.setDev (controlWrite s.params v s.dev)).answer .nothing)

end Sys2Proof.Machine
end

