-- ==== Sys2Proof/Machine/Interrupt.lean ====
section
/-! DEFINITION. InterruptEnable, InterruptDisable and InterruptMask (46_interrupt.md). -/

namespace Sys2Proof.Machine

/-- Write `b` to the mask bits that `v` selects; a 0 bit leaves its mask bit (R220, R221). -/
def maskWrite (b : Bool) (v : Word) (d : Device) : Device :=
  { d with
    receiverReadyIrqEnabled := if IMR.rxrdy v then b else d.receiverReadyIrqEnabled
    transmitterReadyIrqEnabled := if IMR.txrdy v then b else d.transmitterReadyIrqEnabled }

/-- `W_IER` (R220). -/
def execWIer (v : Word) (s : State) : Result :=
  whenRunning s fun s => .next ((s.setDev (maskWrite true v s.dev).recomputeIrq).answer .nothing)

/-- `W_IDR` (R221). -/
def execWIdr (v : Word) (s : State) : Result :=
  whenRunning s fun s => .next ((s.setDev (maskWrite false v s.dev).recomputeIrq).answer .nothing)

/-- `R_IMR` (R222). -/
def execRImr (s : State) : Result := readOnly (fun s => maskValue s.dev) s

end Sys2Proof.Machine
end

