-- ==== Sys2Proof/Machine/Mode.lean ====
section
/-! DEFINITION. The Mode register (42_mode.md). -/

namespace Sys2Proof.Machine

/-- `R_MR` (R142). -/
def execRMr (s : State) : Result := readOnly (fun s => modeValue s.dev) s

/-- The diagnostic of a Mode write: DG_MODE_NONZERO for a nonzero MODE (R141), else perhaps DG_TAGGED (R106). One
operation emits at most one diagnostic (R309; DEDUCED, unsafe, log entry 11). -/
def modeDiag (v : Word) (s : State) : State :=
  if MR.mode v = 0#4 then s.optionalDiag .tagged else s.emitDiag .modeNonzero

/-- `W_MR` (R141): both fields are stored on every write (D32); no recomputation. -/
def execWMr (v : Word) (s : State) : Result :=
  whenRunning s fun s =>
    .next ((modeDiag v (s.setDev { s.dev with modeSel := MR.mode v, parRaw := MR.par v })).answer .nothing)

end Sys2Proof.Machine
end

