-- ==== Sys2Proof/Machine/ReceiveHolding.lean ====
section
/-! DEFINITION. The Receive Holding register (44_receive_holding.md): the one read with side effects. -/

namespace Sys2Proof.Machine

/-- The read with the receiver disabled (R181). -/
def receiveDisabled (s : State) : State := (s.setDev s.dev.recomputeIrq).answer (.word 0#32)

/-- The read of an empty FIFO with the receiver enabled: the diagnostic, and a free value (R184, D13). -/
def receiveEmpty (s : State) : State :=
  (((s.emitDiag .emptyRhr).draw).setDev s.dev.recomputeIrq).answer (.word (Config.freeWord s.draws))

/-- The read that pops `b` and leaves `rest` (R182, R183, R185). -/
def receivePop (b : Byte) (rest : List Byte) (s : State) : State :=
  (s.setDev (s.dev.popped b rest).recomputeIrq).answer (.word (b.setWidth 32))

/-- The read of ReceiveHolding (R180). -/
def receiveRead (s : State) : State :=
  if s.dev.receiverEnabled then
    match s.dev.fifo with
    | [] => receiveEmpty s
    | b :: rest => receivePop b rest s
  else receiveDisabled s

/-- `R_RHR` (R180). -/
def execRRhr (s : State) : Result := whenRunning s fun s => .next (receiveRead s)

end Sys2Proof.Machine
end

