-- ==== Sys2Proof/Machine/RegisterFile.lean ====
section
/-! DEFINITION. The accesses no register-specific file covers (40_register_file.md): reads of write-only registers
(R104), writes to read-only registers (R105), unrecognized offsets (R103). -/

namespace Sys2Proof.Machine

/-- `R_CR` (R104). -/
def execRCr (s : State) : Result := readOnly (fun _ => 0#32) s

/-- `R_IER` (R104). -/
def execRIer (s : State) : Result := readOnly (fun _ => 0#32) s

/-- `R_IDR` (R104). -/
def execRIdr (s : State) : Result := readOnly (fun _ => 0#32) s

/-- `R_THR` (R104). -/
def execRThr (s : State) : Result := readOnly (fun _ => 0#32) s

/-- `W_IMR` (R105). -/
def execWImr (_v : Word) (s : State) : Result := ignoredWrite s

/-- `W_CSR` (R105). -/
def execWCsr (_v : Word) (s : State) : Result := ignoredWrite s

/-- `W_RHR` (R105); the write passes the tagged field RXSYNH (R106). -/
def execWRhr (_v : Word) (s : State) : Result :=
  whenRunning s fun s => .next ((s.optionalDiag .tagged).answer .nothing)

/-- `R_UNMAPPED` (R103). -/
def execRUnmapped (_off : Target) (s : State) : Result :=
  whenRunning s fun s => .next ((s.optionalDiag .unmapped).answer (.word 0#32))

/-- `W_UNMAPPED` (R103). -/
def execWUnmapped (_off : Target) (_v : Word) (s : State) : Result :=
  whenRunning s fun s => .next ((s.optionalDiag .unmapped).answer .nothing)

end Sys2Proof.Machine
end

