-- ==== Sys2Proof/Machine/TransmitHolding.lean ====
section
/-! DEFINITION. The Transmit Holding register (45_transmit_holding.md). -/

namespace Sys2Proof.Machine

/-- The hand-off of R200: the byte is an output, then the recomputation. With the transmitter disabled the write
does nothing. -/
def transmit (v : Word) (s : State) : State :=
  if s.dev.transmitterEnabled then (s.emitTx (THR.txchr v)).setDev s.dev.recomputeIrq else s

/-- `W_THR` (R200); the write passes the tagged field TXSYNH (R106). -/
def execWThr (v : Word) (s : State) : Result :=
  whenRunning s fun s => .next (((transmit v s).optionalDiag .tagged).answer .nothing)

end Sys2Proof.Machine
end

