-- ==== Sys2Proof/Machine/Transport.lean ====
section
/-! DEFINITION. The transport's events (48_transport_events.md), and the selectors that spell no operation (R306). -/

namespace Sys2Proof.Machine

/-- Whether a received character is dropped (R260, D14). -/
def dropsCharacter (s : State) : Bool :=
  !s.dev.receiverEnabled && s.params.rxWhileDisabled == .drop

/-- The receive event of R260. -/
def receiveChar (b : Byte) (s : State) : State :=
  if dropsCharacter s then s.optionalDiag .rxDropped else s.setDev (s.dev.push b).recomputeIrq

/-- `EV_RXCHAR` (R260). -/
def execEvRxchar (b : Byte) (s : State) : Result :=
  whenRunning s fun s => .next ((receiveChar b s).answer .nothing)

/-- `EV_TXDRAINED` (R261). -/
def execEvTxdrained (s : State) : Result :=
  whenRunning s fun s => .next ((s.setDev s.dev.recomputeIrq).answer .nothing)

/-- The line parameters for a parity type: everything else is constant (R11, R263, R264). -/
def lineParams (p : Parity) : LineParams := { baud := 115200, stopBits := 1, parity := p }

/-- The answer of the line-parameter accessor: the record, or the fatal fault for an invalid PAR value (R263,
R303). -/
def queryLine (s : State) : State :=
  match parityOf s.params s.dev.parRaw with
  | some p => s.answer (.line (lineParams p))
  | none => (s.setDev (s.dev.raiseFault .parityInvalid)).answer .nothing

/-- `EV_QUERYLINE` (R263). -/
def execEvQueryline (s : State) : Result := whenRunning s fun s => .next (queryLine s)

/-- The flags a line error sets (R265): set only, no recomputation. -/
def lineError (m : BitVec 3) (d : Device) : Device :=
  { d with
    overrunError := if LineError.overrun m then true else d.overrunError
    frameError := if LineError.frame m then true else d.frameError
    parityError := if LineError.parity m then true else d.parityError }

/-- `EV_LINEERROR` (R265), offered only where `LINE_ERROR_EVENTS` is true. -/
def execEvLineerror (m : BitVec 3) (s : State) : Result :=
  whenRunning s fun s =>
    if s.params.lineErrorEvents then .next ((s.setDev (lineError m s.dev)).answer .nothing)
    else .refused .lineErrorNotOffered

/-- `EV_RESERVED`: refused (R306). -/
def execEvReserved (_code : Target) (s : State) : Result :=
  whenRunning s fun _ => .refused .reservedEvent

/-- `K_RESERVED`: refused (R306). -/
def execKReserved (_low : Target) (s : State) : Result :=
  whenRunning s fun _ => .refused .reservedKind

end Sys2Proof.Machine
end

