-- ==== Sys2Proof/Machine/Dispatch.lean ====
section
/-! DEFINITION. One arm per operation, each a direct call of its meaning. -/

namespace Sys2Proof.Machine

def exec (i : Instr) (s : State) : Host.Outcome State Fault Refusal :=
  match i with
  | .rCr => Sys2Proof.Machine.execRCr s
  | .rMr => Sys2Proof.Machine.execRMr s
  | .rIer => Sys2Proof.Machine.execRIer s
  | .rIdr => Sys2Proof.Machine.execRIdr s
  | .rImr => Sys2Proof.Machine.execRImr s
  | .rCsr => Sys2Proof.Machine.execRCsr s
  | .rRhr => Sys2Proof.Machine.execRRhr s
  | .rThr => Sys2Proof.Machine.execRThr s
  | .rCmpr => Sys2Proof.Machine.execRCmpr s
  | .wCr v => Sys2Proof.Machine.execWCr v s
  | .wMr v => Sys2Proof.Machine.execWMr v s
  | .wIer v => Sys2Proof.Machine.execWIer v s
  | .wIdr v => Sys2Proof.Machine.execWIdr v s
  | .wImr v => Sys2Proof.Machine.execWImr v s
  | .wCsr v => Sys2Proof.Machine.execWCsr v s
  | .wRhr v => Sys2Proof.Machine.execWRhr v s
  | .wThr v => Sys2Proof.Machine.execWThr v s
  | .wCmpr v => Sys2Proof.Machine.execWCmpr v s
  | .evRxchar b => Sys2Proof.Machine.execEvRxchar b s
  | .evTxdrained => Sys2Proof.Machine.execEvTxdrained s
  | .evQueryline => Sys2Proof.Machine.execEvQueryline s
  | .evLineerror m => Sys2Proof.Machine.execEvLineerror m s
  | .rUnmapped off => Sys2Proof.Machine.execRUnmapped off s
  | .wUnmapped off v => Sys2Proof.Machine.execWUnmapped off v s
  | .evReserved code => Sys2Proof.Machine.execEvReserved code s
  | .kReserved low => Sys2Proof.Machine.execKReserved low s

end Sys2Proof.Machine
end

