-- ==== Sys2Proof/Machine/Step.lean ====
section
/-! DEFINITION. One step: the next operation in the order of the lock, run as one indivisible step (R67, R68). -/

namespace Sys2Proof.Machine

/-- One step: in a faulted device none (R100, R303), else the next operation an agent presents. -/
def step (s : State) : Host.Outcome State Fault Refusal :=
  whenRunning s fun s => fetch s exec

/-- `s` with the operation whose bits are `w` placed first, so that the very next step runs it (log entry 3). -/
def State.withFetchWord (s : State) (nbits w : Nat) : State :=
  { s with pending := requestOfBits nbits w :: s.pending }

end Sys2Proof.Machine
end

