-- ==== Sys2Proof/Safety.lean ====
section
/-! DEFINITION. What a sound state and a safe run are, and how a sequence of operations runs. -/

namespace Sys2Proof.Machine

/-- R37: a FIFO that holds a byte implies RXRDY. -/
abbrev Device.ReadyInv (d : Device) : Prop := d.fifo ≠ [] → d.receiverReady = true

/-- R38: the IRQ level is the IRQ function of the state. -/
abbrev Device.IrqInv (d : Device) : Prop := d.irqLine = irqFn d

/-- The invariants of R37 and R38. -/
abbrev Device.Inv (d : Device) : Prop := d.ReadyInv ∧ d.IrqInv

/-- The device is not faulted: its operations have a step (R100, R303). -/
abbrev State.Running (s : State) : Prop := s.dev.faulted = none

/-- The premise of R304: the stored PAR value is one the table maps. -/
abbrev State.ParityValid (s : State) : Prop := parityOf s.params s.dev.parRaw ≠ none

/-- A sequence of operations, each from the state the one before left (R68). -/
def execAll : List Instr → State → Host.Outcome State Fault Refusal
  | [], s => .next s
  | i :: is, s =>
    match exec i s with
    | .next t => execAll is t
    | .fault r => .fault r
    | .refused r => .refused r

/-- `t` is `s` but for the device, the response, the free-value counter and, perhaps, one optional diagnostic `d`
(R302, R305). -/
abbrev State.MayEmit (s t : State) (d : Diag) : Prop :=
  t.params = s.params ∧ t.pending = s.pending
    ∧ (t.outputs = s.outputs ∨ t.outputs = s.outputs ++ [.diag d])

/-- Change the state of an outcome that has one. -/
def mapNext (f : State → State) : Host.Outcome State Fault Refusal → Host.Outcome State Fault Refusal
  | .next t => .next (f t)
  | .fault r => .fault r
  | .refused r => .refused r

/-- `s` with another stored MODE (R31). -/
def State.withMode (s : State) (m : BitVec 4) : State := { s with dev := { s.dev with modeSel := m } }

/-- `s` with other error and compare flags (R230). -/
def State.withErrorFlags (s : State) (ovre frame pare cmp : Bool) : State :=
  { s with
    dev := { s.dev with
      overrunError := ovre, frameError := frame, parityError := pare, compareSucceeded := cmp } }

/-- Whether an output event is a diagnostic. -/
def Output.isDiag : Output → Bool
  | .diag _ => true
  | .txByte _ => false

end Sys2Proof.Machine
end

