-- ==== Sys2Proof/Certificates/Slice0/Obligations.lean ====
section
/-! DEFINITION. The statements for the provers, each from numbered rules of spec/. -/

open Sys2Proof Sys2Proof.Machine

/-! ### Reset and invariants -/

/-- R53, R340: the device at construction. The values of the two IRQ enables, `parRaw`, `modeSel` and the compare
configuration are the spec's decision D18 (log entry 1); the parameters are the spec's defaults, written out (R12, D7, D12, D14 to D16,
log entry 2);
that nothing is pending, returned, emitted is the model's choice (log entries 3 and 4). -/
def Obligations.ResetIsConstructionState : Prop :=
  State.reset.dev =
      { receiverEnabled := false, transmitterEnabled := false, receiverReady := false,
        receiverReadyIrqEnabled := false, transmitterReadyIrqEnabled := false,
        parityError := false, frameError := false, overrunError := false, compareSucceeded := false,
        parRaw := 0#3, modeSel := 0#4, compareModeEnable := false, compareVal1 := 0#8,
        compareVal2 := 0#8, fifo := [], irqLine := false, faulted := none }
    ∧ State.reset.params =
      { rxWhileDisabled := .drop, rstrxClearsRxrdy := false, cmprReadback := .zero,
        parCode := #v[some .even, some .odd, some .space, some .mark, some .no, none, none, none],
        lineErrorEvents := true }
    ∧ State.reset.pending = []
    ∧ State.reset.response = .nothing ∧ State.reset.outputs = []

/-- The invariants of R37 and R38 hold at construction. -/
def Obligations.ResetMeetsInvariants : Prop := State.reset.dev.Inv

/-- R37 and R38, "after every operation": a step from any state with `fifo` not empty implies `receiverReady`, and
`irqLine = irqFn`, gives such a state. -/
def Obligations.StepKeepsReadyAndIrqInvariants : Prop :=
  ∀ s t : State, s.dev.Inv → step s = .next t → t.dev.Inv

/-- L2-K: from construction every register reads 0. RHR takes the receiver-disabled path. -/
def Obligations.EveryRegisterReadsZeroAtReset : Prop :=
  ∀ i ∈ [Instr.rCr, .rMr, .rIer, .rIdr, .rImr, .rCsr, .rRhr, .rThr, .rCmpr],
    exec i State.reset = .next { State.reset with response := .word 0#32 }

/-! ### Decoding and encoding -/

/-- R81, R82, R86: the request that spells a well-formed operation decodes to it, with every operand. -/
def Obligations.DecodeOfEncodeIsTheOperation : Prop :=
  ∀ i : Instr, i.WellFormed → decode (encode i) = .instr i

/-- R81, R86: every selector, with every operand, decodes to a well-formed operation whose own selector it is: no
selector is lost and none decodes to a neighbour. -/
def Obligations.SelectorOfDecodedOperation : Prop :=
  ∀ (sel : Selector) (x : Word),
    (decodeSelector sel x).WellFormed ∧ (decodeSelector sel x).selector = sel

/-- R86 (the selectors are the spec's own choice D1, the size check its decision D2): the decoder takes the first row of the map that matches (`sel & mask = match`), every selector matches a row,
and a bus operation with SZ other than 32 is refused before the map is consulted. -/
def Obligations.DecoderTakesFirstMatchingRow : Prop :=
  let rows : List (Selector × Selector × String) :=
    [ (0x0000, 0xFFFF, "R_CR"), (0x0004, 0xFFFF, "R_MR"), (0x0008, 0xFFFF, "R_IER"),
      (0x000C, 0xFFFF, "R_IDR"), (0x0010, 0xFFFF, "R_IMR"), (0x0014, 0xFFFF, "R_CSR"),
      (0x0018, 0xFFFF, "R_RHR"), (0x001C, 0xFFFF, "R_THR"), (0x0024, 0xFFFF, "R_CMPR"),
      (0x4000, 0xFFFF, "W_CR"), (0x4004, 0xFFFF, "W_MR"), (0x4008, 0xFFFF, "W_IER"),
      (0x400C, 0xFFFF, "W_IDR"), (0x4010, 0xFFFF, "W_IMR"), (0x4014, 0xFFFF, "W_CSR"),
      (0x4018, 0xFFFF, "W_RHR"), (0x401C, 0xFFFF, "W_THR"), (0x4024, 0xFFFF, "W_CMPR"),
      (0x8001, 0xFFFF, "EV_RXCHAR"), (0x8002, 0xFFFF, "EV_TXDRAINED"),
      (0x8003, 0xFFFF, "EV_QUERYLINE"), (0x8004, 0xFFFF, "EV_LINEERROR"),
      (0x0000, 0xC000, "R_UNMAPPED"), (0x4000, 0xC000, "W_UNMAPPED"),
      (0x8000, 0xC000, "EV_RESERVED"), (0xC000, 0xC000, "K_RESERVED") ]
  ∀ (sel : Selector) (x : Word),
    (rows.find? (fun r => sel &&& r.2.1 == r.1)).map (fun r => r.2.2)
        = some (decodeSelector sel x).mnemonic
      ∧ decode (.operation sel .word x) = .instr (decodeSelector sel x)
      ∧ ∀ size : AccessSize, size ≠ .word →
          decode (.operation sel size x) =
            if sel.getLsbD 15 then .instr (decodeSelector sel x) else .reject .subWordAccess

/-- L2-J and R95: selectors written out from the spec, and what they spell. -/
def Obligations.SpecSelectorsDecode : Prop :=
  decode (.operation 0x0018#16 .word 0#32) = .instr .rRhr
    ∧ decode (.operation 0x4018#16 .word 7#32) = .instr (.wRhr 7#32)
    ∧ decode (.operation 0x4000#16 .word 0x50#32) = .instr (.wCr 0x50#32)
    ∧ decode (.operation 0x4004#16 .word 0x800#32) = .instr (.wMr 0x800#32)
    ∧ decode (.operation 0x0014#16 .word 0#32) = .instr .rCsr
    ∧ decode (.operation 0x401C#16 .word 0x48#32) = .instr (.wThr 0x48#32)
    ∧ decode (.operation 0x400C#16 .word 2#32) = .instr (.wIdr 2#32)
    ∧ decode (.operation 0x4024#16 .word 0x00391030#32) = .instr (.wCmpr 0x00391030#32)
    ∧ decode (.operation 0x8001#16 .word 0x48#32) = .instr (.evRxchar 0x48#8)
    ∧ decode (.operation 0x8004#16 .word 5#32) = .instr (.evLineerror 5#3)
    ∧ decode (.operation 0x0020#16 .word 0#32) = .instr (.rUnmapped 0x20#14)
    ∧ decode (.operation 0x7FFF#16 .word 1#32) = .instr (.wUnmapped 0x3FFF#14 1#32)
    ∧ decode (.operation 0x8000#16 .word 0#32) = .instr (.evReserved 0#14)
    ∧ decode (.operation 0x8005#16 .word 0#32) = .instr (.evReserved 5#14)
    ∧ decode (.operation 0xBFFF#16 .word 0#32) = .instr (.evReserved 0x3FFF#14)
    ∧ decode (.operation 0xC000#16 .word 0#32) = .instr (.kReserved 0#14)
    ∧ decode (.operation 0xFFFF#16 .word 0#32) = .instr (.kReserved 0x3FFF#14)

/-- R14, R60, R62, R63, R100: a bus master's 32-bit access at `UART_BASE + off` is the bus operation at offset `off`;
at an offset of 0x4000 or more, or below the base (the model's reading, log entry 6), it is refused; an access of another
size is refused before its address is looked at (the spec's decisions D2 and D31). -/
def Obligations.BusAccessReachesItsOffset : Prop :=
  (∀ (off : Target) (v : Word),
      decode (.busRead (Config.uartBase + off.toNat) .word) = .instr (decodeSelector (0b00#2 ++ off) 0#32)
        ∧ decode (.busWrite (Config.uartBase + off.toNat) .word v)
            = .instr (decodeSelector (0b01#2 ++ off) v))
    ∧ (∀ (addr : Nat) (v : Word), (addr < Config.uartBase ∨ Config.uartBase + 0x4000 ≤ addr) →
        decode (.busRead addr .word) = .reject .outOfFootprint
          ∧ decode (.busWrite addr .word v) = .reject .outOfFootprint)
    ∧ (∀ (addr : Nat) (size : AccessSize) (v : Word), size ≠ .word →
        decode (.busRead addr size) = .reject .subWordAccess
          ∧ decode (.busWrite addr size v) = .reject .subWordAccess)

/-! ### Steps -/

/-- R67, R68: a step of a running device runs the next operation presented, on the state without its request; that the
step changes nothing where none is presented is the model's choice (log entry 3). -/
def Obligations.StepRunsTheDecodedOperation : Prop :=
  (∀ (s : State) (r : Request) (rest : List Request) (i : Instr),
      s.Running → s.pending = r :: rest → decode r = .instr i →
      step s = exec i { s with pending := rest })
    ∧ (∀ s : State, s.Running → s.pending = [] → step s = .next s)

/-- R62, R63, R306 (the spec's decisions D2 and D31): a request the decoder rejects is refused by name, with no step. -/
def Obligations.StepRefusesRejectedRequests : Prop :=
  ∀ (s : State) (r : Request) (rest : List Request), s.Running → s.pending = r :: rest →
    (decode r = .reject .subWordAccess → step s = .refused .subWordAccess)
      ∧ (decode r = .reject .outOfFootprint → step s = .refused .outOfFootprint)

/-- R303, R100 (the spec's decisions D23 and D30, log entry 12): once the device is faulted no operation of either agent has a step, and the machine is stuck whatever
is presented to it. -/
def Obligations.FaultedDeviceHasNoStep : Prop :=
  ∀ (s : State) (code : FaultCode), s.dev.faulted = some code →
    (∀ i : Instr, exec i s = .fault (.stuck code)) ∧ step s = .fault (.stuck code)

/-! ### Register file access -/

/-- R104, a decision of the spec (D7): a read of CR, IER, IDR or THR returns 0 and changes no state. -/
def Obligations.WriteOnlyRegistersReadZero : Prop :=
  ∀ s : State, s.Running → ∀ i ∈ [Instr.rCr, .rIer, .rIdr, .rThr],
    exec i s = .next { s with response := .word 0#32 }

/-- R105, a decision of the spec (D8): a write to IMR, CSR or RHR is ignored. The write to RHR passes a tagged field, so it
may emit DG_TAGGED (R106). -/
def Obligations.ReadOnlyRegistersIgnoreWrites : Prop :=
  ∀ (s : State) (v : Word), s.Running →
    exec (.wImr v) s = .next { s with response := .nothing }
      ∧ exec (.wCsr v) s = .next { s with response := .nothing }
      ∧ ∃ t, exec (.wRhr v) s = .next t ∧ t.dev = s.dev ∧ t.response = .nothing ∧ s.MayEmit t .tagged

/-- R103 (with the spec's decisions D3 and D6 on which offsets are unrecognized): a read returns 0, a write is ignored, the
state is unchanged, and DG_UNMAPPED may be emitted. -/
def Obligations.UnrecognizedOffsetsReadZeroIgnoreWrites : Prop :=
  ∀ (s : State) (off : Target) (v : Word), s.Running →
    (∃ t, exec (.rUnmapped off) s = .next t ∧ t.dev = s.dev ∧ t.response = .word 0#32
        ∧ s.MayEmit t .unmapped)
      ∧ ∃ t, exec (.wUnmapped off v) s = .next t ∧ t.dev = s.dev ∧ t.response = .nothing
          ∧ s.MayEmit t .unmapped

/-- R40, R106, R85, R125: writes differing only in tagged fields, REQCLR and bits in no field have the same outcome. -/
def Obligations.UndeclaredAndTaggedBitsHaveNoEffect : Prop :=
  ∀ (s : State) (v : Word),
    exec (.wCr v) s = exec (.wCr (v &&& 0x000001FC#32)) s
      ∧ exec (.wMr v) s = exec (.wMr (v &&& 0x00000E0F#32)) s
      ∧ exec (.wIer v) s = exec (.wIer (v &&& 0x00000003#32)) s
      ∧ exec (.wIdr v) s = exec (.wIdr (v &&& 0x00000003#32)) s
      ∧ exec (.wThr v) s = exec (.wThr (v &&& 0x000000FF#32)) s
      ∧ exec (.wCmpr v) s = exec (.wCmpr (v &&& 0x00FF10FF#32)) s

/-! ### Control -/

/-- R120: the whole effect of a Control write, field by field. -/
def Obligations.ControlWriteFollowsItsPrecedence : Prop :=
  ∀ (s : State) (v : Word),
    decodeSelector 0x4000#16 v = .wCr v
      ∧ (s.Running →
          let rstrx := v.getLsbD 2
          let rsttx := v.getLsbD 3
          let rxen := v.getLsbD 4
          let rxdis := v.getLsbD 5
          let txen := v.getLsbD 6
          let txdis := v.getLsbD 7
          let rststa := v.getLsbD 8
          let d : Device :=
            { s.dev with
              fifo := if rstrx then [] else s.dev.fifo
              receiverReady := s.dev.receiverReady && !(rstrx && s.params.rstrxClearsRxrdy)
              receiverEnabled := rxen || (s.dev.receiverEnabled && !rstrx && !rxdis)
              transmitterEnabled := !txdis && (txen || (s.dev.transmitterEnabled && !rsttx))
              parityError := s.dev.parityError && !rststa
              frameError := s.dev.frameError && !rststa
              compareSucceeded := s.dev.compareSucceeded && !rststa
              overrunError := s.dev.overrunError && !rststa }
          exec (.wCr v) s = .next { s with dev := { d with irqLine := irqFn d }, response := .nothing })

/-- R121 (derived by the spec from R120): the receiver outcome table. -/
def Obligations.ReceiverOutcomeOfControlWrite : Prop :=
  ∀ (s : State) (v : Word), s.Running →
    ∃ t, exec (.wCr v) s = .next t
      ∧ (t.dev.receiverEnabled, t.dev.fifo) =
          match v.getLsbD 2, v.getLsbD 4, v.getLsbD 5 with
          | false, false, false => (s.dev.receiverEnabled, s.dev.fifo)
          | false, false, true => (false, s.dev.fifo)
          | false, true, false => (true, s.dev.fifo)
          | false, true, true => (true, s.dev.fifo)
          | true, false, false => (false, [])
          | true, false, true => (false, [])
          | true, true, false => (true, [])
          | true, true, true => (true, [])

/-- R122: the transmitter outcome table, and RSTTX has no other effect than on the transmitter (and the IRQ level that follows
from it). -/
def Obligations.TransmitterOutcomeOfControlWrite : Prop :=
  ∀ (s : State) (v : Word), s.Running →
    ∃ t, exec (.wCr v) s = .next t
      ∧ (∃ u, exec (.wCr (v ||| 0x8#32)) s = .next u
          ∧ u.dev = { t.dev with
              transmitterEnabled := u.dev.transmitterEnabled, irqLine := irqFn u.dev })
      ∧ t.dev.transmitterEnabled =
          match v.getLsbD 7, v.getLsbD 3, v.getLsbD 6 with
          | false, false, false => s.dev.transmitterEnabled
          | false, false, true => true
          | false, true, false => false
          | false, true, true => true
          | true, false, false => false
          | true, false, true => false
          | true, true, false => false
          | true, true, true => false

/-- R123: RSTSTA clears the four latched flags whatever else the write holds, and alone it changes nothing else but the
recomputed IRQ level. -/
def Obligations.StatusResetClearsExactlyFourFlags : Prop :=
  ∀ s : State, s.Running →
    (∀ v : Word, v.getLsbD 8 = true →
        ∃ t, exec (.wCr v) s = .next t ∧ t.dev.parityError = false ∧ t.dev.frameError = false
          ∧ t.dev.compareSucceeded = false ∧ t.dev.overrunError = false)
      ∧ exec (.wCr 0x100#32) s =
          .next { s with
            dev := { s.dev with
              parityError := false, frameError := false, compareSucceeded := false,
              overrunError := false, irqLine := irqFn s.dev }
            response := .nothing }

/-- R124: REQCLR, bit 12, has no effect. -/
def Obligations.ReqclrHasNoEffect : Prop :=
  ∀ (s : State) (v : Word), exec (.wCr (v ||| 0x1000#32)) s = exec (.wCr v) s

/-! ### Mode -/

/-- R141: every write stores MODE and PAR and nothing else, with no recomputation; a nonzero MODE emits DG_MODE_NONZERO. That a
write with MODE = 0 may emit DG_TAGGED, and one with MODE not 0 does not, is R106 with R309 as the model reads it (log entry 11). -/
def Obligations.ModeWriteStoresModeAndParity : Prop :=
  ∀ (s : State) (v : Word),
    decodeSelector 0x4004#16 v = .wMr v
      ∧ (s.Running →
          ∃ t, exec (.wMr v) s = .next t
            ∧ t.dev = { s.dev with modeSel := v.setWidth 4, parRaw := (v >>> 9).setWidth 3 }
            ∧ t.response = .nothing ∧ t.params = s.params ∧ t.pending = s.pending
            ∧ (v.setWidth 4 ≠ 0#4 → t.outputs = s.outputs ++ [.diag .modeNonzero])
            ∧ (v.setWidth 4 = 0#4 → s.MayEmit t .tagged))

/-- R142 (with the spec's decisions D10 and D11): a read of MR returns MODE and PAR, every other bit 0, with no state change. -/
def Obligations.ModeReadReturnsModeAndParity : Prop :=
  decodeSelector 0x0004#16 0#32 = .rMr
    ∧ ∀ s : State, s.Running →
        ∃ v : Word, exec .rMr s = .next { s with response := .word v }
          ∧ v.setWidth 4 = s.dev.modeSel ∧ (v >>> 9).setWidth 3 = s.dev.parRaw
          ∧ v &&& 0x00000E0F#32 = v

/-- R141, R142, R106 (D10, D11): what is written to MR reads back, but for tagged and undeclared bits, which read 0. -/
def Obligations.ModeReadsBackWhatWasWritten : Prop :=
  ∀ (s : State) (v : Word), s.Running →
    ∃ t u, exec (.wMr v) s = .next t ∧ exec .rMr t = .next u
      ∧ u.response = .word (v &&& 0x00000E0F#32)

/-- R31, R143: no operation but a read of MR depends on the stored MODE: the outcome from a state with another MODE is the same
but for MODE itself, and a write to MR forgets it. The read of MR changes no state in either. -/
def Obligations.StoredModeChangesNoBehaviour : Prop :=
  (∀ (i : Instr) (s : State) (m : BitVec 4), i ≠ .rMr → (∀ v, i ≠ .wMr v) →
      exec i (s.withMode m) = mapNext (fun t => t.withMode m) (exec i s))
    ∧ (∀ (s : State) (v : Word) (m : BitVec 4), s.Running →
        exec (.wMr v) (s.withMode m) = exec (.wMr v) s)
    ∧ (∀ (s t : State), exec .rMr s = .next t → t.dev = s.dev)

/-! ### Channel status -/

/-- R160: the value of a CSR read, bit by bit, and no state change. -/
def Obligations.StatusReadReportsEachFlag : Prop :=
  decodeSelector 0x0014#16 0#32 = .rCsr
    ∧ ∀ s : State, s.Running →
        ∃ v : Word, exec .rCsr s = .next { s with response := .word v }
          ∧ v.getLsbD 0 = s.dev.receiverReady ∧ v.getLsbD 1 = s.dev.transmitterEnabled
          ∧ v.getLsbD 5 = s.dev.overrunError ∧ v.getLsbD 6 = s.dev.frameError
          ∧ v.getLsbD 7 = s.dev.parityError ∧ v.getLsbD 15 = s.dev.compareSucceeded
          ∧ ∀ k : Nat, k ∉ [0, 1, 5, 6, 7, 15] → v.getLsbD k = false

/-- R161: a CSR read changes no flag, a second one right after it returns the same value, and the value is computed fresh: it is the
same from every state of the machine with the same device. -/
def Obligations.StatusReadIsUnaffectedByItself : Prop :=
  ∀ s : State, s.Running →
    ∃ t, exec .rCsr s = .next t ∧ t.dev = s.dev ∧ exec .rCsr t = .next t
      ∧ ∀ u w : State, u.dev = s.dev → exec .rCsr u = .next w → w.response = t.response

/-- R162: TXRDY is 1 exactly when `transmitterEnabled` is true, and only Control writes change that. -/
def Obligations.TxrdyMirrorsTransmitterEnabled : Prop :=
  (∀ s : State, s.Running →
      ∃ v : Word, exec .rCsr s = .next { s with response := .word v }
        ∧ v.getLsbD 1 = s.dev.transmitterEnabled)
    ∧ ∀ (i : Instr) (s t : State), exec i s = .next t → (∀ v, i ≠ .wCr v) →
        t.dev.transmitterEnabled = s.dev.transmitterEnabled

/-! ### Receive holding -/

/-- R181, R185: with the receiver disabled an RHR read returns 0; FIFO, RXRDY and CMP are left as they were, and only the IRQ
level is recomputed. -/
def Obligations.ReceiveReadWhileDisabledReturnsZero : Prop :=
  ∀ s : State, s.Running → s.dev.receiverEnabled = false →
    exec .rRhr s =
      .next { s with dev := { s.dev with irqLine := irqFn s.dev }, response := .word 0#32 }

/-- R182, R183, R185 (that bits 31:8 of the returned word, bit 8 among them, are 0 is the spec's own decision D27, log entry 16): a
successful RHR read removes and returns the head byte, clears RXRDY if the FIFO is then empty, sets CMP
if the byte is in the inclusive range with compare mode on (and never clears it), and recomputes the IRQ last. -/
def Obligations.ReceiveReadPopsTheHead : Prop :=
  ∀ (s : State) (b : Byte) (rest : List Byte),
    s.Running → s.dev.receiverEnabled = true → s.dev.fifo = b :: rest →
      let d : Device :=
        { s.dev with
          fifo := rest
          receiverReady := if rest = [] then false else s.dev.receiverReady
          compareSucceeded := s.dev.compareSucceeded
            || decide (s.dev.compareModeEnable = true ∧ s.dev.compareVal1.toNat ≤ b.toNat
                ∧ b.toNat ≤ s.dev.compareVal2.toNat) }
      exec .rRhr s =
        .next { s with dev := { d with irqLine := irqFn d }, response := .word (BitVec.ofNat 32 b.toNat) }

/-- R184 (the value is a free value, D13: nothing is said of it): with the receiver enabled and the FIFO empty, an RHR read
returns some word, emits DG_EMPTY_RHR, and changes no field of the device but the recomputed IRQ level. -/
def Obligations.ReceiveReadOfEmptyFifoCompletes : Prop :=
  ∀ s : State, s.Running → s.dev.receiverEnabled = true → s.dev.fifo = [] →
    ∃ (t : State) (r : Word), exec .rRhr s = .next t ∧ t.response = .word r
      ∧ t.dev = { s.dev with irqLine := irqFn s.dev }
      ∧ t.outputs = s.outputs ++ [.diag .emptyRhr] ∧ t.params = s.params ∧ t.pending = s.pending

/-- R36, R69 (that no byte is lost rests on the unbounded FIFO, the spec's decision D17, log entry 7; the zero-extended byte on D27, log
entry 16): bytes leave the FIFO in the order the receive events put them in. Deliver `bs` to an enabled receiver; then the read
after `xs.length` reads returns the byte that stands after `xs` in what was there and what arrived. -/
def Obligations.FifoKeepsArrivalOrder : Prop :=
  ∀ (s : State) (bs xs ys : List Byte) (b : Byte),
    s.Running → s.dev.receiverEnabled = true → s.dev.fifo ++ bs = xs ++ b :: ys →
      ∃ t u w : State, execAll (bs.map .evRxchar) s = .next t
        ∧ execAll (List.replicate xs.length .rRhr) t = .next u
        ∧ exec .rRhr u = .next w
        ∧ w.response = .word (b.setWidth 32) ∧ w.dev.fifo = ys

/-- R33, R345: the FIFO changes by a receive event (one byte at the tail), an RHR read with the receiver enabled (the head) or an
RSTRX (emptied), and by nothing else. -/
def Obligations.FifoChangesOnlyByReceiveReadAndReset : Prop :=
  ∀ (i : Instr) (s t : State), exec i s = .next t →
    t.dev.fifo = s.dev.fifo
      ∨ (∃ b, i = .evRxchar b ∧ t.dev.fifo = s.dev.fifo ++ [b])
      ∨ (i = .rRhr ∧ s.dev.receiverEnabled = true ∧ ∃ b, s.dev.fifo = b :: t.dev.fifo)
      ∨ (∃ v, i = .wCr v ∧ v.getLsbD 2 = true ∧ t.dev.fifo = [])

/-! ### Transmit holding -/

/-- R200: a THR write hands the low byte to the transport if the transmitter is enabled and recomputes the IRQ; else it is a no-op.
It may emit DG_TAGGED (R106). -/
def Obligations.TransmitWriteHandsOverTheLowByte : Prop :=
  ∀ (s : State) (v : Word),
    decodeSelector 0x401C#16 v = .wThr v
      ∧ (s.Running →
          ∃ t, exec (.wThr v) s = .next t ∧ t.response = .nothing
            ∧ t.params = s.params ∧ t.pending = s.pending
            ∧ (s.dev.transmitterEnabled = false →
                t.dev = s.dev ∧ (t.outputs = s.outputs ∨ t.outputs = s.outputs ++ [.diag .tagged]))
            ∧ (s.dev.transmitterEnabled = true →
                t.dev = { s.dev with irqLine := irqFn s.dev }
                  ∧ (t.outputs = s.outputs ++ [.txByte (v.setWidth 8)]
                      ∨ t.outputs = s.outputs ++ [.txByte (v.setWidth 8), .diag .tagged])))

/-- R14, R200, R201 (with the spec's decision D29), R309: the outputs of an operation come after all earlier ones; a TxByte comes only from a THR write with the
transmitter enabled, and is its low byte; and an operation emits at most one diagnostic (R309 as the model reads it, log entry
11). -/
def Obligations.OutputsComeInIssueOrder : Prop :=
  ∀ (i : Instr) (s t : State), exec i s = .next t →
    ∃ new : List Output, t.outputs = s.outputs ++ new
      ∧ (∀ b, .txByte b ∈ new →
          ∃ v : Word, i = .wThr v ∧ b = v.setWidth 8 ∧ s.dev.transmitterEnabled = true)
      ∧ (new.filter Output.isDiag).length ≤ 1

/-! ### Interrupts -/

/-- R220: IER sets the mask bits written as 1, leaves the others, and recomputes. -/
def Obligations.InterruptEnableSetsMaskBits : Prop :=
  ∀ (s : State) (v : Word),
    decodeSelector 0x4008#16 v = .wIer v
      ∧ (s.Running →
          let d : Device :=
            { s.dev with
              receiverReadyIrqEnabled := v.getLsbD 0 || s.dev.receiverReadyIrqEnabled
              transmitterReadyIrqEnabled := v.getLsbD 1 || s.dev.transmitterReadyIrqEnabled }
          exec (.wIer v) s = .next { s with dev := { d with irqLine := irqFn d }, response := .nothing })

/-- R221: IDR clears the mask bits written as 1, leaves the others, and recomputes. -/
def Obligations.InterruptDisableClearsMaskBits : Prop :=
  ∀ (s : State) (v : Word),
    decodeSelector 0x400C#16 v = .wIdr v
      ∧ (s.Running →
          let d : Device :=
            { s.dev with
              receiverReadyIrqEnabled := !v.getLsbD 0 && s.dev.receiverReadyIrqEnabled
              transmitterReadyIrqEnabled := !v.getLsbD 1 && s.dev.transmitterReadyIrqEnabled }
          exec (.wIdr v) s = .next { s with dev := { d with irqLine := irqFn d }, response := .nothing })

/-- R222: IMR shows the two enables, every other bit 0, with no state change. -/
def Obligations.InterruptMaskReadShowsTheEnables : Prop :=
  decodeSelector 0x0010#16 0#32 = .rImr
    ∧ ∀ s : State, s.Running →
        ∃ v : Word, exec .rImr s = .next { s with response := .word v }
          ∧ v.getLsbD 0 = s.dev.receiverReadyIrqEnabled
          ∧ v.getLsbD 1 = s.dev.transmitterReadyIrqEnabled
          ∧ ∀ k : Nat, 2 ≤ k → v.getLsbD k = false

/-- R223: after a sequence of IER (`true`) and IDR (`false`) writes, each mask bit is as the last write with that bit 1 left it, or
unchanged if none had. -/
def Obligations.LastMaskWriteWins : Prop :=
  ∀ (s : State) (ws : List (Bool × Word)), s.Running →
    ∃ t, execAll (ws.map fun w => if w.1 then .wIer w.2 else .wIdr w.2) s = .next t
      ∧ t.dev.receiverReadyIrqEnabled =
          (match (ws.filter fun w => w.2.getLsbD 0).getLast? with
          | some w => w.1
          | none => s.dev.receiverReadyIrqEnabled)
      ∧ t.dev.transmitterReadyIrqEnabled =
          match (ws.filter fun w => w.2.getLsbD 1).getLast? with
          | some w => w.1
          | none => s.dev.transmitterReadyIrqEnabled

/-- R226: the IRQ equation over exactly five booleans, and a recomputation that is idempotent and sets the output line alone. -/
def Obligations.IrqEquation : Prop :=
  (∀ d : Device, irqFn d = true ↔
      (d.receiverEnabled = true ∧ d.receiverReadyIrqEnabled = true ∧ d.receiverReady = true)
        ∨ (d.transmitterEnabled = true ∧ d.transmitterReadyIrqEnabled = true))
    ∧ ∀ d : Device, d.recomputeIrq = { d with irqLine := irqFn d }
        ∧ d.recomputeIrq.recomputeIrq = d.recomputeIrq

/-- R229, R347 (derived by the spec): with the transmitter and its IRQ enabled and the line up, no sequence of THR writes and
TxDrained events lowers it. -/
def Obligations.TransmitInterruptHolds : Prop :=
  ∀ (s : State) (is : List Instr), s.Running →
    s.dev.transmitterEnabled = true → s.dev.transmitterReadyIrqEnabled = true → s.dev.irqLine = true →
    (∀ i ∈ is, i = .evTxdrained ∨ ∃ v, i = .wThr v) →
      ∃ t, execAll is s = .next t ∧ t.dev = s.dev

/-- R230, R28, R29: the error and compare flags never reach the IRQ: two states that differ only in them have, after any operation,
the same IRQ level. -/
def Obligations.ErrorFlagsRaiseNoInterrupt : Prop :=
  ∀ (i : Instr) (s t u : State) (ovre frame pare cmp : Bool),
    exec i s = .next t → exec i (s.withErrorFlags ovre frame pare cmp) = .next u →
      u.dev.irqLine = t.dev.irqLine

/-! ### Compare -/

/-- R240 (that every write sets all three is the spec's decision D32): a CMPR write stores VAL1, CMPMODE and VAL2 and nothing else;
no recomputation. It may emit DG_TAGGED (R106). -/
def Obligations.CompareWriteStoresItsThreeFields : Prop :=
  ∀ (s : State) (v : Word),
    decodeSelector 0x4024#16 v = .wCmpr v
      ∧ (s.Running →
          ∃ t, exec (.wCmpr v) s = .next t
            ∧ t.dev = { s.dev with
                compareVal1 := v.setWidth 8, compareModeEnable := v.getLsbD 12,
                compareVal2 := (v >>> 16).setWidth 8 }
            ∧ t.response = .nothing ∧ s.MayEmit t .tagged)

/-- R242 (parameter CMPR_READBACK, D7): a CMPR read returns 0 under Zero, and what was last written to the three fields under
Stored; no state changes. -/
def Obligations.CompareReadFollowsReadback : Prop :=
  ∀ (s : State) (v : Word), s.Running →
    (s.params.cmprReadback = .zero → exec .rCmpr s = .next { s with response := .word 0#32 })
      ∧ (s.params.cmprReadback = .stored →
          (∃ x : Word, exec .rCmpr s = .next { s with response := .word x })
            ∧ ∃ t u, exec (.wCmpr v) s = .next t ∧ exec .rCmpr t = .next u
                ∧ u.response = .word (v &&& 0x00FF10FF#32))

/-! ### Transport events -/

/-- R260 (the fate of a character while the receiver is disabled is the parameter RX_WHILE_DISABLED, D14; that none is turned away by a full
FIFO is the decision D17, log entry 7): a received character goes
to the tail, sets RXRDY and recomputes; under Drop with the receiver disabled nothing of the device changes. -/
def Obligations.ReceiveEventEnqueuesOrDrops : Prop :=
  ∀ (s : State) (b : Byte), s.Running →
    (s.dev.receiverEnabled = false ∧ s.params.rxWhileDisabled = .drop →
        ∃ t, exec (.evRxchar b) s = .next t ∧ t.dev = s.dev ∧ t.response = .nothing
          ∧ s.MayEmit t .rxDropped)
      ∧ (s.dev.receiverEnabled = true ∨ s.params.rxWhileDisabled = .enqueue →
          let d : Device := { s.dev with fifo := s.dev.fifo ++ [b], receiverReady := true }
          exec (.evRxchar b) s =
            .next { s with dev := { d with irqLine := irqFn d }, response := .nothing })

/-- R261 (with the spec's decision D29 on the event): TxDrained recomputes the IRQ level and does nothing else, so where the level is right it leaves the device unchanged. -/
def Obligations.TxDrainedOnlyRecomputes : Prop :=
  decodeSelector 0x8002#16 0#32 = .evTxdrained
    ∧ ∀ s : State, s.Running →
        exec .evTxdrained s =
            .next { s with dev := { s.dev with irqLine := irqFn s.dev }, response := .nothing }
          ∧ (s.dev.IrqInv → exec .evTxdrained s = .next { s with response := .nothing })

/-- R263: the line query returns 115200, one stop bit and the parity type of PAR, with no state change; for an invalid PAR value it
enters the faulted state and changes nothing else (R303, decision D23); under the default table of the spec (D12, log entry 2) the invalid
values are 5, 6 and 7. -/
def Obligations.LineQueryReturnsParametersOrFaults : Prop :=
  decodeSelector 0x8003#16 0#32 = .evQueryline
    ∧ (∀ (s : State) (p : Parity), s.Running → parityOf s.params s.dev.parRaw = some p →
        exec .evQueryline s =
          .next { s with response := .line { baud := 115200, stopBits := 1, parity := p } })
    ∧ (∀ s : State, s.Running → parityOf s.params s.dev.parRaw = none →
        exec .evQueryline s =
          .next { s with
            dev := { s.dev with faulted := some .parityInvalid }, response := .nothing })
    ∧ ∀ n : BitVec 3, parityOf Params.default n = none ↔ n = 5#3 ∨ n = 6#3 ∨ n = 7#3

/-- R145, R144: writing the PAR value of a parity type and querying the line returns that type, whose effective setting is R144's, for
every table of PAR codes. -/
def Obligations.ParityRoundTrip : Prop :=
  (∀ (s : State) (n : BitVec 3) (p : Parity), s.Running → parityOf s.params n = some p →
      ∃ t u l, exec (.wMr (n.setWidth 32 <<< 9)) s = .next t ∧ exec .evQueryline t = .next u
        ∧ u.response = .line l ∧ effectiveParity l.parity = effectiveParity p ∧ l.parity = p)
    ∧ effectiveParity .even = .even ∧ effectiveParity .odd = .odd
    ∧ effectiveParity .space = .forcedLow ∧ effectiveParity .mark = .forcedHigh
    ∧ effectiveParity .no = .none

/-- R265, the spec's own event (D16): a line error sets the flags its mask names and clears none, leaves the IRQ level, the receiver and
the FIFO; where LINE_ERROR_EVENTS is false it is not offered (the model refuses it, log entry 10). -/
def Obligations.LineErrorSetsItsFlags : Prop :=
  ∀ (s : State) (m : BitVec 3), s.Running →
    (s.params.lineErrorEvents = true →
        exec (.evLineerror m) s =
          .next { s with
            dev := { s.dev with
              overrunError := m.getLsbD 0 || s.dev.overrunError
              frameError := m.getLsbD 1 || s.dev.frameError
              parityError := m.getLsbD 2 || s.dev.parityError }
            response := .nothing })
      ∧ (s.params.lineErrorEvents = false → exec (.evLineerror m) s = .refused .lineErrorNotOffered)

/-- R306, R302 (the spec's decision D2): a reserved event code and the reserved kind spell no operation and are refused by name. -/
def Obligations.ReservedSelectorsAreRefused : Prop :=
  ∀ (s : State) (x : Target), s.Running →
    exec (.evReserved x) s = .refused .reservedEvent ∧ exec (.kReserved x) s = .refused .reservedKind

/-! ### Whole-machine rules -/

/-- R300: every bus operation of a running device completes, a read with a 32-bit value, a write with nothing, and raises no fault. -/
def Obligations.NoBusOperationEndsInAnError : Prop :=
  ∀ (i : Instr) (s : State), s.Running →
    (i.kind = .busRead → ∃ (t : State) (v : Word),
        exec i s = .next t ∧ t.response = .word v ∧ t.Running)
      ∧ (i.kind = .busWrite → ∃ t : State, exec i s = .next t ∧ t.response = .nothing ∧ t.Running)

/-- R72: a read other than RHR changes no field of the device; an RHR read with the receiver disabled or the FIFO empty leaves every
field, the IRQ level too where it was right; any other RHR read pops the FIFO, may clear RXRDY, may set CMP, and recomputes the IRQ level: nothing else. -/
def Obligations.OnlyReceiveReadsHaveSideEffects : Prop :=
  ∀ (i : Instr) (s t : State), i.kind = .busRead → exec i s = .next t →
    (i ≠ .rRhr → t.dev = s.dev)
      ∧ (i = .rRhr → s.dev.receiverEnabled = false ∨ s.dev.fifo = [] → s.dev.IrqInv → t.dev = s.dev)
      ∧ (i = .rRhr → s.dev.receiverEnabled = true → s.dev.fifo ≠ [] →
          t.dev = { s.dev with
            fifo := s.dev.fifo.tail, receiverReady := t.dev.receiverReady,
            compareSucceeded := t.dev.compareSucceeded, irqLine := t.dev.irqLine }
            ∧ (t.dev.receiverReady = true → s.dev.receiverReady = true)
            ∧ (s.dev.compareSucceeded = true → t.dev.compareSucceeded = true))

/-- R73 (derived by the spec): a second equal write to CR, MR, IER, IDR or CMPR leaves the device as the first did. -/
def Obligations.RegisterWritesAreIdempotent : Prop :=
  ∀ (i : Instr) (s t u : State) (v : Word),
    i ∈ [Instr.wCr v, .wMr v, .wIer v, .wIdr v, .wCmpr v] →
    exec i s = .next t → exec i t = .next u → u.dev = t.dev

/-- R23 to R27 and R30 to R32: which operation writes each enable, mask and configuration field: the two enables a Control write, the mask an
IER or IDR write, PAR and MODE an MR write, the compare configuration a CMPR write. -/
def Obligations.EachFieldHasItsOneWriter : Prop :=
  ∀ (i : Instr) (s t : State), exec i s = .next t →
    ((∀ v, i ≠ .wCr v) → t.dev.receiverEnabled = s.dev.receiverEnabled
        ∧ t.dev.transmitterEnabled = s.dev.transmitterEnabled)
      ∧ ((∀ v, i ≠ .wIer v ∧ i ≠ .wIdr v) →
          t.dev.receiverReadyIrqEnabled = s.dev.receiverReadyIrqEnabled
            ∧ t.dev.transmitterReadyIrqEnabled = s.dev.transmitterReadyIrqEnabled)
      ∧ ((∀ v, i ≠ .wMr v) → t.dev.parRaw = s.dev.parRaw ∧ t.dev.modeSel = s.dev.modeSel)
      ∧ ((∀ v, i ≠ .wCmpr v) → t.dev.compareModeEnable = s.dev.compareModeEnable
          ∧ t.dev.compareVal1 = s.dev.compareVal1 ∧ t.dev.compareVal2 = s.dev.compareVal2)

/-- R25, R51, R163 (with parameter RSTRX_CLEARS_RXRDY, D15): RXRDY rises only in a receive event, and falls only in an RHR read that leaves
the FIFO empty, or in an RSTRX under the parameter. -/
def Obligations.ReceiverReadyRisesAndFallsOnlySo : Prop :=
  ∀ (i : Instr) (s t : State), exec i s = .next t →
    (s.dev.receiverReady = false → t.dev.receiverReady = true → ∃ b, i = .evRxchar b)
      ∧ (s.dev.receiverReady = true → t.dev.receiverReady = false →
          (i = .rRhr ∧ t.dev.fifo = [])
            ∨ ∃ v, i = .wCr v ∧ v.getLsbD 2 = true ∧ s.params.rstrxClearsRxrdy = true)

/-- R28, R29, R51, R353: the latched error flags rise only in a line error, CMP only in an RHR read of a byte in range with compare mode on, and
all four fall only by RSTSTA. -/
def Obligations.LatchedFlagsFallOnlyByStatusReset : Prop :=
  ∀ (i : Instr) (s t : State), exec i s = .next t →
    ((∀ v, i = .wCr v → v.getLsbD 8 = false) →
        (s.dev.parityError = true → t.dev.parityError = true)
          ∧ (s.dev.frameError = true → t.dev.frameError = true)
          ∧ (s.dev.overrunError = true → t.dev.overrunError = true)
          ∧ (s.dev.compareSucceeded = true → t.dev.compareSucceeded = true))
      ∧ ((∀ m, i ≠ .evLineerror m) →
          (t.dev.parityError = true → s.dev.parityError = true)
            ∧ (t.dev.frameError = true → s.dev.frameError = true)
            ∧ (t.dev.overrunError = true → s.dev.overrunError = true))
      ∧ (s.dev.compareSucceeded = false → t.dev.compareSucceeded = true →
          i = .rRhr ∧ s.dev.receiverEnabled = true ∧ s.dev.compareModeEnable = true
            ∧ ∃ b rest, s.dev.fifo = b :: rest ∧ s.dev.compareVal1.toNat ≤ b.toNat
                ∧ b.toNat ≤ s.dev.compareVal2.toNat)

/-- R303, R304, R35 (with the spec's decision D23): the device becomes faulted only in a line query while PAR is invalid, and then it does. -/
def Obligations.OnlyAnInvalidLineQueryFaults : Prop :=
  ∀ (i : Instr) (s t : State), exec i s = .next t →
    (t.dev.faulted ≠ none ↔ i = .evQueryline ∧ parityOf s.params s.dev.parRaw = none)

/-- R12 (log entry 2) and R68: no step writes a parameter of the device, and no operation touches the requests still to come. -/
def Obligations.NoStepWritesParameters : Prop :=
  (∀ s t : State, step s = .next t → t.params = s.params ∧ t.pending = s.pending.tail)
    ∧ ∀ (i : Instr) (s t : State), exec i s = .next t → t.params = s.params ∧ t.pending = s.pending

/-- R345 (derived by the spec from R66 to R69): a FIFO that holds a byte still holds it, at its head, after any sequence of transport events
that completes. -/
def Obligations.TransportEventsNeverTakeAByte : Prop :=
  ∀ (is : List Instr) (s t : State) (b : Byte) (rest : List Byte),
    (∀ i ∈ is, i.kind = .event) → s.dev.fifo = b :: rest → execAll is s = .next t →
      ∃ more, t.dev.fifo = b :: (rest ++ more)

/-- R352 (derived by the spec, under the default of RSTRX_CLEARS_RXRDY, D15): RSTRX then RXEN with RXRDY set leaves RXRDY set over an empty
FIFO, and an RHR read does not clear it; where the RX mask bit is set the IRQ is up after the re-enable and after the read. -/
def Obligations.StaleReadyAfterReceiverReset : Prop :=
  ∀ s : State, s.Running → s.params.rstrxClearsRxrdy = false → s.dev.receiverReady = true →
    ∃ t u w : State, exec (.wCr 0x4#32) s = .next t ∧ exec (.wCr 0x10#32) t = .next u
      ∧ exec .rRhr u = .next w
      ∧ u.dev.fifo = [] ∧ u.dev.receiverReady = true
      ∧ w.dev.fifo = [] ∧ w.dev.receiverReady = true
      ∧ (s.dev.receiverReadyIrqEnabled = true → u.dev.irqLine = true ∧ w.dev.irqLine = true)
end

