-- ==== Sys2Proof/Laws/Decode.lean ====
section
/-! SUPPORT. The selector's two fields (R81) are read back as they were put together. -/

namespace Sys2Proof

theorem selectorKind_mkSelector (k : Machine.Kind) (t : Target) : selectorKind (mkSelector k t) = k := by
  have h15 : (mkSelector k t).getLsbD 15 = (kindCode k).getLsbD 1 := by
    rw [mkSelector, BitVec.getLsbD_append]; rfl
  have h14 : (mkSelector k t).getLsbD 14 = (kindCode k).getLsbD 0 := by
    rw [mkSelector, BitVec.getLsbD_append]; rfl
  unfold selectorKind
  rw [h15, h14]
  cases k <;> rfl

theorem selectorTarget_mkSelector (k : Machine.Kind) (t : Target) :
    selectorTarget (mkSelector k t) = t := by
  apply BitVec.eq_of_getLsbD_eq
  intro j hj
  rw [selectorTarget, mkSelector, BitVec.getLsbD_extractLsb', BitVec.getLsbD_append]
  simp [hj]

/-- A selector is its kind and its target. -/
theorem mkSelector_fields (sel : Selector) : mkSelector (selectorKind sel) (selectorTarget sel) = sel := by
  apply BitVec.eq_of_getLsbD_eq
  intro j hj
  simp only [mkSelector, selectorTarget, BitVec.getLsbD_append, BitVec.getLsbD_extractLsb']
  by_cases h : j < 14
  · simp [h]
  · have : j = 14 ∨ j = 15 := by omega
    unfold selectorKind
    rcases this with rfl | rfl <;>
      cases h15 : sel.getLsbD 15 <;> cases h14 : sel.getLsbD 14 <;> simp [kindCode]

/-- Two selectors are equal when their kinds and targets are. -/
theorem mkSelector_inj {k l : Machine.Kind} {t u : Target} :
    mkSelector k t = mkSelector l u ↔ k = l ∧ t = u := by
  constructor
  · intro h
    exact ⟨by rw [← selectorKind_mkSelector k t, h, selectorKind_mkSelector],
      by rw [← selectorTarget_mkSelector k t, h, selectorTarget_mkSelector]⟩
  · rintro ⟨rfl, rfl⟩; rfl

/-- Every bus access at `UART_BASE + off` reaches offset `off` (R60). -/
theorem busOffset_base_add (off : Target) : busOffset (Config.uartBase + off.toNat) = some off := by
  have h : off.toNat < 0x4000 := off.isLt
  unfold busOffset
  rw [if_pos ⟨Nat.le_add_right _ _, by omega⟩, Nat.add_sub_cancel_left, BitVec.ofNat_toNat,
    BitVec.setWidth_eq]

/-- An address below the base, or 0x4000 or more above it, reaches no offset (R62). -/
theorem busOffset_outside {addr : Nat}
    (h : addr < Config.uartBase ∨ Config.uartBase + 0x4000 ≤ addr) : busOffset addr = none := by
  unfold busOffset
  rw [if_neg (by omega)]

end Sys2Proof
end

