-- ==== Sys2Proof/Laws/State.lean ====
section
/-! SUPPORT. One lemma per field per update of the state and of the device, each true by rfl, so that no later proof unfolds
a record update. -/

namespace Sys2Proof.Machine

/-! ### `State.setDev` -/

@[simp] theorem State.setDev_dev (s : State) (d : Device) :
    (s.setDev d).dev = d := rfl
@[simp] theorem State.setDev_params (s : State) (d : Device) :
    (s.setDev d).params = s.params := rfl
@[simp] theorem State.setDev_pending (s : State) (d : Device) :
    (s.setDev d).pending = s.pending := rfl
@[simp] theorem State.setDev_response (s : State) (d : Device) :
    (s.setDev d).response = s.response := rfl
@[simp] theorem State.setDev_outputs (s : State) (d : Device) :
    (s.setDev d).outputs = s.outputs := rfl
@[simp] theorem State.setDev_draws (s : State) (d : Device) :
    (s.setDev d).draws = s.draws := rfl

/-! ### `State.answer` -/

@[simp] theorem State.answer_dev (s : State) (r : Response) :
    (s.answer r).dev = s.dev := rfl
@[simp] theorem State.answer_params (s : State) (r : Response) :
    (s.answer r).params = s.params := rfl
@[simp] theorem State.answer_pending (s : State) (r : Response) :
    (s.answer r).pending = s.pending := rfl
@[simp] theorem State.answer_response (s : State) (r : Response) :
    (s.answer r).response = r := rfl
@[simp] theorem State.answer_outputs (s : State) (r : Response) :
    (s.answer r).outputs = s.outputs := rfl
@[simp] theorem State.answer_draws (s : State) (r : Response) :
    (s.answer r).draws = s.draws := rfl

/-! ### `State.emitTx` -/

@[simp] theorem State.emitTx_dev (s : State) (b : Byte) :
    (s.emitTx b).dev = s.dev := rfl
@[simp] theorem State.emitTx_params (s : State) (b : Byte) :
    (s.emitTx b).params = s.params := rfl
@[simp] theorem State.emitTx_pending (s : State) (b : Byte) :
    (s.emitTx b).pending = s.pending := rfl
@[simp] theorem State.emitTx_response (s : State) (b : Byte) :
    (s.emitTx b).response = s.response := rfl
@[simp] theorem State.emitTx_outputs (s : State) (b : Byte) :
    (s.emitTx b).outputs = s.outputs ++ [.txByte b] := rfl
@[simp] theorem State.emitTx_draws (s : State) (b : Byte) :
    (s.emitTx b).draws = s.draws := rfl

/-! ### `State.emitDiag` -/

@[simp] theorem State.emitDiag_dev (s : State) (d : Diag) :
    (s.emitDiag d).dev = s.dev := rfl
@[simp] theorem State.emitDiag_params (s : State) (d : Diag) :
    (s.emitDiag d).params = s.params := rfl
@[simp] theorem State.emitDiag_pending (s : State) (d : Diag) :
    (s.emitDiag d).pending = s.pending := rfl
@[simp] theorem State.emitDiag_response (s : State) (d : Diag) :
    (s.emitDiag d).response = s.response := rfl
@[simp] theorem State.emitDiag_outputs (s : State) (d : Diag) :
    (s.emitDiag d).outputs = s.outputs ++ [.diag d] := rfl
@[simp] theorem State.emitDiag_draws (s : State) (d : Diag) :
    (s.emitDiag d).draws = s.draws := rfl

/-! ### `State.optionalDiag` -/

@[simp] theorem State.optionalDiag_dev (s : State) (d : Diag) :
    (s.optionalDiag d).dev = s.dev := rfl
@[simp] theorem State.optionalDiag_params (s : State) (d : Diag) :
    (s.optionalDiag d).params = s.params := rfl
@[simp] theorem State.optionalDiag_pending (s : State) (d : Diag) :
    (s.optionalDiag d).pending = s.pending := rfl
@[simp] theorem State.optionalDiag_response (s : State) (d : Diag) :
    (s.optionalDiag d).response = s.response := rfl
@[simp] theorem State.optionalDiag_outputs (s : State) (d : Diag) :
    (s.optionalDiag d).outputs = s.outputs ++ (if Config.optionalDiag s.draws then [.diag d] else []) := rfl
@[simp] theorem State.optionalDiag_draws (s : State) (d : Diag) :
    (s.optionalDiag d).draws = s.draws + 1 := rfl

/-! ### `State.draw` -/

@[simp] theorem State.draw_dev (s : State) :
    (s.draw).dev = s.dev := rfl
@[simp] theorem State.draw_params (s : State) :
    (s.draw).params = s.params := rfl
@[simp] theorem State.draw_pending (s : State) :
    (s.draw).pending = s.pending := rfl
@[simp] theorem State.draw_response (s : State) :
    (s.draw).response = s.response := rfl
@[simp] theorem State.draw_outputs (s : State) :
    (s.draw).outputs = s.outputs := rfl
@[simp] theorem State.draw_draws (s : State) :
    (s.draw).draws = s.draws + 1 := rfl

/-! ### `Device.recomputeIrq` -/

@[simp] theorem Device.recomputeIrq_receiverEnabled (d : Device) :
    (d.recomputeIrq).receiverEnabled = d.receiverEnabled := rfl
@[simp] theorem Device.recomputeIrq_transmitterEnabled (d : Device) :
    (d.recomputeIrq).transmitterEnabled = d.transmitterEnabled := rfl
@[simp] theorem Device.recomputeIrq_receiverReady (d : Device) :
    (d.recomputeIrq).receiverReady = d.receiverReady := rfl
@[simp] theorem Device.recomputeIrq_receiverReadyIrqEnabled (d : Device) :
    (d.recomputeIrq).receiverReadyIrqEnabled = d.receiverReadyIrqEnabled := rfl
@[simp] theorem Device.recomputeIrq_transmitterReadyIrqEnabled (d : Device) :
    (d.recomputeIrq).transmitterReadyIrqEnabled = d.transmitterReadyIrqEnabled := rfl
@[simp] theorem Device.recomputeIrq_parityError (d : Device) :
    (d.recomputeIrq).parityError = d.parityError := rfl
@[simp] theorem Device.recomputeIrq_frameError (d : Device) :
    (d.recomputeIrq).frameError = d.frameError := rfl
@[simp] theorem Device.recomputeIrq_overrunError (d : Device) :
    (d.recomputeIrq).overrunError = d.overrunError := rfl
@[simp] theorem Device.recomputeIrq_compareSucceeded (d : Device) :
    (d.recomputeIrq).compareSucceeded = d.compareSucceeded := rfl
@[simp] theorem Device.recomputeIrq_parRaw (d : Device) :
    (d.recomputeIrq).parRaw = d.parRaw := rfl
@[simp] theorem Device.recomputeIrq_modeSel (d : Device) :
    (d.recomputeIrq).modeSel = d.modeSel := rfl
@[simp] theorem Device.recomputeIrq_compareModeEnable (d : Device) :
    (d.recomputeIrq).compareModeEnable = d.compareModeEnable := rfl
@[simp] theorem Device.recomputeIrq_compareVal1 (d : Device) :
    (d.recomputeIrq).compareVal1 = d.compareVal1 := rfl
@[simp] theorem Device.recomputeIrq_compareVal2 (d : Device) :
    (d.recomputeIrq).compareVal2 = d.compareVal2 := rfl
@[simp] theorem Device.recomputeIrq_fifo (d : Device) :
    (d.recomputeIrq).fifo = d.fifo := rfl
@[simp] theorem Device.recomputeIrq_irqLine (d : Device) :
    (d.recomputeIrq).irqLine = irqFn d := rfl
@[simp] theorem Device.recomputeIrq_faulted (d : Device) :
    (d.recomputeIrq).faulted = d.faulted := rfl

/-! ### `Device.push` -/

@[simp] theorem Device.push_receiverEnabled (d : Device) (b : Byte) :
    (d.push b).receiverEnabled = d.receiverEnabled := rfl
@[simp] theorem Device.push_transmitterEnabled (d : Device) (b : Byte) :
    (d.push b).transmitterEnabled = d.transmitterEnabled := rfl
@[simp] theorem Device.push_receiverReady (d : Device) (b : Byte) :
    (d.push b).receiverReady = true := rfl
@[simp] theorem Device.push_receiverReadyIrqEnabled (d : Device) (b : Byte) :
    (d.push b).receiverReadyIrqEnabled = d.receiverReadyIrqEnabled := rfl
@[simp] theorem Device.push_transmitterReadyIrqEnabled (d : Device) (b : Byte) :
    (d.push b).transmitterReadyIrqEnabled = d.transmitterReadyIrqEnabled := rfl
@[simp] theorem Device.push_parityError (d : Device) (b : Byte) :
    (d.push b).parityError = d.parityError := rfl
@[simp] theorem Device.push_frameError (d : Device) (b : Byte) :
    (d.push b).frameError = d.frameError := rfl
@[simp] theorem Device.push_overrunError (d : Device) (b : Byte) :
    (d.push b).overrunError = d.overrunError := rfl
@[simp] theorem Device.push_compareSucceeded (d : Device) (b : Byte) :
    (d.push b).compareSucceeded = d.compareSucceeded := rfl
@[simp] theorem Device.push_parRaw (d : Device) (b : Byte) :
    (d.push b).parRaw = d.parRaw := rfl
@[simp] theorem Device.push_modeSel (d : Device) (b : Byte) :
    (d.push b).modeSel = d.modeSel := rfl
@[simp] theorem Device.push_compareModeEnable (d : Device) (b : Byte) :
    (d.push b).compareModeEnable = d.compareModeEnable := rfl
@[simp] theorem Device.push_compareVal1 (d : Device) (b : Byte) :
    (d.push b).compareVal1 = d.compareVal1 := rfl
@[simp] theorem Device.push_compareVal2 (d : Device) (b : Byte) :
    (d.push b).compareVal2 = d.compareVal2 := rfl
@[simp] theorem Device.push_fifo (d : Device) (b : Byte) :
    (d.push b).fifo = d.fifo ++ [b] := rfl
@[simp] theorem Device.push_irqLine (d : Device) (b : Byte) :
    (d.push b).irqLine = d.irqLine := rfl
@[simp] theorem Device.push_faulted (d : Device) (b : Byte) :
    (d.push b).faulted = d.faulted := rfl

/-! ### `Device.popped` -/

@[simp] theorem Device.popped_receiverEnabled (d : Device) (b : Byte) (rest : List Byte) :
    (d.popped b rest).receiverEnabled = d.receiverEnabled := rfl
@[simp] theorem Device.popped_transmitterEnabled (d : Device) (b : Byte) (rest : List Byte) :
    (d.popped b rest).transmitterEnabled = d.transmitterEnabled := rfl
@[simp] theorem Device.popped_receiverReady (d : Device) (b : Byte) (rest : List Byte) :
    (d.popped b rest).receiverReady = if rest.isEmpty then false else d.receiverReady := rfl
@[simp] theorem Device.popped_receiverReadyIrqEnabled (d : Device) (b : Byte) (rest : List Byte) :
    (d.popped b rest).receiverReadyIrqEnabled = d.receiverReadyIrqEnabled := rfl
@[simp] theorem Device.popped_transmitterReadyIrqEnabled (d : Device) (b : Byte) (rest : List Byte) :
    (d.popped b rest).transmitterReadyIrqEnabled = d.transmitterReadyIrqEnabled := rfl
@[simp] theorem Device.popped_parityError (d : Device) (b : Byte) (rest : List Byte) :
    (d.popped b rest).parityError = d.parityError := rfl
@[simp] theorem Device.popped_frameError (d : Device) (b : Byte) (rest : List Byte) :
    (d.popped b rest).frameError = d.frameError := rfl
@[simp] theorem Device.popped_overrunError (d : Device) (b : Byte) (rest : List Byte) :
    (d.popped b rest).overrunError = d.overrunError := rfl
@[simp] theorem Device.popped_compareSucceeded (d : Device) (b : Byte) (rest : List Byte) :
    (d.popped b rest).compareSucceeded = if compareMatches d b then true else d.compareSucceeded := rfl
@[simp] theorem Device.popped_parRaw (d : Device) (b : Byte) (rest : List Byte) :
    (d.popped b rest).parRaw = d.parRaw := rfl
@[simp] theorem Device.popped_modeSel (d : Device) (b : Byte) (rest : List Byte) :
    (d.popped b rest).modeSel = d.modeSel := rfl
@[simp] theorem Device.popped_compareModeEnable (d : Device) (b : Byte) (rest : List Byte) :
    (d.popped b rest).compareModeEnable = d.compareModeEnable := rfl
@[simp] theorem Device.popped_compareVal1 (d : Device) (b : Byte) (rest : List Byte) :
    (d.popped b rest).compareVal1 = d.compareVal1 := rfl
@[simp] theorem Device.popped_compareVal2 (d : Device) (b : Byte) (rest : List Byte) :
    (d.popped b rest).compareVal2 = d.compareVal2 := rfl
@[simp] theorem Device.popped_fifo (d : Device) (b : Byte) (rest : List Byte) :
    (d.popped b rest).fifo = rest := rfl
@[simp] theorem Device.popped_irqLine (d : Device) (b : Byte) (rest : List Byte) :
    (d.popped b rest).irqLine = d.irqLine := rfl
@[simp] theorem Device.popped_faulted (d : Device) (b : Byte) (rest : List Byte) :
    (d.popped b rest).faulted = d.faulted := rfl

/-! ### `Device.raiseFault` -/

@[simp] theorem Device.raiseFault_receiverEnabled (d : Device) (c : FaultCode) :
    (d.raiseFault c).receiverEnabled = d.receiverEnabled := rfl
@[simp] theorem Device.raiseFault_transmitterEnabled (d : Device) (c : FaultCode) :
    (d.raiseFault c).transmitterEnabled = d.transmitterEnabled := rfl
@[simp] theorem Device.raiseFault_receiverReady (d : Device) (c : FaultCode) :
    (d.raiseFault c).receiverReady = d.receiverReady := rfl
@[simp] theorem Device.raiseFault_receiverReadyIrqEnabled (d : Device) (c : FaultCode) :
    (d.raiseFault c).receiverReadyIrqEnabled = d.receiverReadyIrqEnabled := rfl
@[simp] theorem Device.raiseFault_transmitterReadyIrqEnabled (d : Device) (c : FaultCode) :
    (d.raiseFault c).transmitterReadyIrqEnabled = d.transmitterReadyIrqEnabled := rfl
@[simp] theorem Device.raiseFault_parityError (d : Device) (c : FaultCode) :
    (d.raiseFault c).parityError = d.parityError := rfl
@[simp] theorem Device.raiseFault_frameError (d : Device) (c : FaultCode) :
    (d.raiseFault c).frameError = d.frameError := rfl
@[simp] theorem Device.raiseFault_overrunError (d : Device) (c : FaultCode) :
    (d.raiseFault c).overrunError = d.overrunError := rfl
@[simp] theorem Device.raiseFault_compareSucceeded (d : Device) (c : FaultCode) :
    (d.raiseFault c).compareSucceeded = d.compareSucceeded := rfl
@[simp] theorem Device.raiseFault_parRaw (d : Device) (c : FaultCode) :
    (d.raiseFault c).parRaw = d.parRaw := rfl
@[simp] theorem Device.raiseFault_modeSel (d : Device) (c : FaultCode) :
    (d.raiseFault c).modeSel = d.modeSel := rfl
@[simp] theorem Device.raiseFault_compareModeEnable (d : Device) (c : FaultCode) :
    (d.raiseFault c).compareModeEnable = d.compareModeEnable := rfl
@[simp] theorem Device.raiseFault_compareVal1 (d : Device) (c : FaultCode) :
    (d.raiseFault c).compareVal1 = d.compareVal1 := rfl
@[simp] theorem Device.raiseFault_compareVal2 (d : Device) (c : FaultCode) :
    (d.raiseFault c).compareVal2 = d.compareVal2 := rfl
@[simp] theorem Device.raiseFault_fifo (d : Device) (c : FaultCode) :
    (d.raiseFault c).fifo = d.fifo := rfl
@[simp] theorem Device.raiseFault_irqLine (d : Device) (c : FaultCode) :
    (d.raiseFault c).irqLine = d.irqLine := rfl
@[simp] theorem Device.raiseFault_faulted (d : Device) (c : FaultCode) :
    (d.raiseFault c).faulted = some c := rfl

end Sys2Proof.Machine
end

