-- ==== Sys2Proof/Laws/Ops.lean ====
section
/-! SUPPORT. One lemma for each shared operation, which says once everything it can do, and the inversion of `exec`. -/

namespace Sys2Proof.Machine

/-! ### The guard of every operation (R100, R303) -/

theorem whenRunning_of_running {s : State} (h : s.Running) (k : State → Result) :
    whenRunning s k = k s := by
  unfold whenRunning; rw [h]

theorem whenRunning_of_faulted {s : State} {c : FaultCode} (h : s.dev.faulted = some c)
    (k : State → Result) : whenRunning s k = .fault (.stuck c) := by
  unfold whenRunning; rw [h]

/-- If the guarded operation answers a next state, the device was running and the operation answered it. -/
theorem whenRunning_next {s t : State} {k : State → Result} (h : whenRunning s k = .next t) :
    s.Running ∧ k s = .next t := by
  unfold whenRunning at h
  split at h
  · cases h
  · exact ⟨‹_›, h⟩

theorem readOnly_next {v : State → Word} {s t : State} (h : readOnly v s = .next t) :
    s.Running ∧ t = s.answer (.word (v s)) := by
  obtain ⟨hr, hk⟩ := whenRunning_next h
  cases hk
  exact ⟨hr, rfl⟩

theorem readOnly_of_running (v : State → Word) {s : State} (h : s.Running) :
    readOnly v s = .next (s.answer (.word (v s))) := whenRunning_of_running h _

theorem ignoredWrite_next {s t : State} (h : ignoredWrite s = .next t) :
    s.Running ∧ t = s.answer .nothing := by
  obtain ⟨hr, hk⟩ := whenRunning_next h
  cases hk
  exact ⟨hr, rfl⟩

theorem ignoredWrite_of_running {s : State} (h : s.Running) :
    ignoredWrite s = .next (s.answer .nothing) := whenRunning_of_running h _

/-! ### The fetch -/

theorem fetch_of_none {s : State} (h : s.pending = []) (k : Instr → State → Result) :
    fetch s k = .next s := by
  unfold fetch; rw [h]

theorem fetch_of_instr {s : State} {r : Request} {rest : List Request} {i : Instr}
    (h : s.pending = r :: rest) (hd : decode r = .instr i) (k : Instr → State → Result) :
    fetch s k = k i { s with pending := rest } := by
  unfold fetch; rw [h]; simp only [hd]

theorem fetch_of_reject {s : State} {r : Request} {rest : List Request} {e : Rejection}
    (h : s.pending = r :: rest) (hd : decode r = .reject e) (k : Instr → State → Result) :
    fetch s k = .refused (rejection e) := by
  unfold fetch; rw [h]; simp only [hd]

/-- Everything a fetch can answer as a next state. -/
theorem fetch_next {s t : State} {k : Instr → State → Result} (h : fetch s k = .next t) :
    (s.pending = [] ∧ t = s)
      ∨ ∃ r rest i, s.pending = r :: rest ∧ decode r = .instr i
          ∧ k i { s with pending := rest } = .next t := by
  unfold fetch at h
  split at h
  · cases h; exact .inl ⟨‹_›, rfl⟩
  · split at h
    · exact .inr ⟨_, _, _, ‹_›, ‹_›, h⟩
    · cases h

/-- Everything a step can answer as a next state. -/
theorem step_next {s t : State} (h : step s = .next t) :
    s.Running ∧ ((s.pending = [] ∧ t = s)
      ∨ ∃ r rest i, s.pending = r :: rest ∧ decode r = .instr i
          ∧ exec i { s with pending := rest } = .next t) := by
  obtain ⟨hr, hk⟩ := whenRunning_next h
  exact ⟨hr, fetch_next hk⟩

/-! ### The recomputation and the FIFO -/

theorem irqFn_recomputeIrq (d : Device) : irqFn d.recomputeIrq = irqFn d := rfl

theorem recomputeIrq_irqInv (d : Device) : d.recomputeIrq.IrqInv := rfl

theorem recomputeIrq_of_irqInv {d : Device} (h : d.IrqInv) : d.recomputeIrq = d := by
  unfold Device.recomputeIrq; rw [← h]

theorem push_readyInv (d : Device) (b : Byte) : (d.push b).ReadyInv := fun _ => rfl

theorem popped_readyInv {d : Device} {b : Byte} {rest : List Byte} (h : d.ReadyInv)
    (hf : d.fifo = b :: rest) : (d.popped b rest).ReadyInv := by
  intro hne
  cases rest with
  | nil => exact absurd rfl hne
  | cons c cs => exact h (by rw [hf]; exact List.cons_ne_nil _ _)

theorem compareMatches_iff (d : Device) (b : Byte) :
    compareMatches d b = true ↔ d.compareModeEnable = true
      ∧ d.compareVal1.toNat ≤ b.toNat ∧ b.toNat ≤ d.compareVal2.toNat := by
  simp [compareMatches, BitVec.ule, and_assoc]

/-! ### The output events -/

theorem optionalDiag_outputs_cases (s : State) (d : Diag) :
    (s.optionalDiag d).outputs = s.outputs ∨ (s.optionalDiag d).outputs = s.outputs ++ [.diag d] := by
  rw [State.optionalDiag_outputs]
  split
  · exact .inr rfl
  · exact .inl (List.append_nil _)

theorem optionalDiag_mayEmit (s : State) (d : Diag) (r : Response) :
    s.MayEmit ((s.optionalDiag d).answer r) d :=
  ⟨rfl, rfl, optionalDiag_outputs_cases s d⟩

/-! ### The Control write -/

theorem controlReceiverReset_eq (p : Params) (v : Word) (d : Device) :
    controlReceiverReset p v d =
      { d with
        fifo := if CR.rstrx v then [] else d.fifo
        receiverEnabled := d.receiverEnabled && !CR.rstrx v
        receiverReady := d.receiverReady && !(CR.rstrx v && p.rstrxClearsRxrdy) } := by
  unfold controlReceiverReset
  cases CR.rstrx v <;> cases p.rstrxClearsRxrdy <;> simp

theorem controlReceiverEnable_eq (v : Word) (d : Device) :
    controlReceiverEnable v d =
      { d with receiverEnabled := CR.rxen v || (d.receiverEnabled && !CR.rxdis v) } := by
  unfold controlReceiverEnable
  cases CR.rxen v <;> cases CR.rxdis v <;> simp

theorem controlTransmitter_eq (v : Word) (d : Device) :
    controlTransmitter v d =
      { d with
        transmitterEnabled := !CR.txdis v && (CR.txen v || (d.transmitterEnabled && !CR.rsttx v)) } := by
  unfold controlTransmitter
  cases CR.txdis v <;> cases CR.txen v <;> cases CR.rsttx v <;> simp

theorem controlStatusReset_eq (v : Word) (d : Device) :
    controlStatusReset v d =
      { d with
        parityError := d.parityError && !CR.rststa v
        frameError := d.frameError && !CR.rststa v
        compareSucceeded := d.compareSucceeded && !CR.rststa v
        overrunError := d.overrunError && !CR.rststa v } := by
  unfold controlStatusReset
  cases CR.rststa v <;> simp

/-- A Control write field by field (R120). -/
theorem controlWrite_eq (p : Params) (v : Word) (d : Device) :
    controlWrite p v d =
      Device.recomputeIrq
        { d with
          fifo := if CR.rstrx v then [] else d.fifo
          receiverReady := d.receiverReady && !(CR.rstrx v && p.rstrxClearsRxrdy)
          receiverEnabled := CR.rxen v || (d.receiverEnabled && !CR.rstrx v && !CR.rxdis v)
          transmitterEnabled := !CR.txdis v && (CR.txen v || (d.transmitterEnabled && !CR.rsttx v))
          parityError := d.parityError && !CR.rststa v
          frameError := d.frameError && !CR.rststa v
          compareSucceeded := d.compareSucceeded && !CR.rststa v
          overrunError := d.overrunError && !CR.rststa v } := by
  rw [controlWrite, controlReceiverReset_eq, controlReceiverEnable_eq, controlTransmitter_eq,
    controlStatusReset_eq]

/-! ### The receive read, the transmit write and the receive event -/

/-- Everything a read of ReceiveHolding can do (R180). -/
theorem receiveRead_cases (s : State) :
    (s.dev.receiverEnabled = false ∧ receiveRead s = receiveDisabled s)
      ∨ (s.dev.receiverEnabled = true ∧ s.dev.fifo = [] ∧ receiveRead s = receiveEmpty s)
      ∨ (s.dev.receiverEnabled = true ∧ ∃ b rest, s.dev.fifo = b :: rest
          ∧ receiveRead s = receivePop b rest s) := by
  unfold receiveRead
  split
  · rename_i h
    split
    · exact .inr (.inl ⟨h, ‹_›, rfl⟩)
    · exact .inr (.inr ⟨h, _, _, ‹_›, rfl⟩)
  · rename_i h
    exact .inl ⟨by simpa using h, rfl⟩

/-- Everything a write of TransmitHolding can do before its optional diagnostic (R200). -/
theorem transmit_cases (v : Word) (s : State) :
    (s.dev.transmitterEnabled = false ∧ transmit v s = s)
      ∨ (s.dev.transmitterEnabled = true
          ∧ transmit v s = (s.emitTx (THR.txchr v)).setDev s.dev.recomputeIrq) := by
  unfold transmit
  cases s.dev.transmitterEnabled <;> simp

/-- Everything a receive event can do (R260). -/
theorem receiveChar_cases (b : Byte) (s : State) :
    (s.dev.receiverEnabled = false ∧ s.params.rxWhileDisabled = .drop
        ∧ receiveChar b s = s.optionalDiag .rxDropped)
      ∨ ((s.dev.receiverEnabled = true ∨ s.params.rxWhileDisabled = .enqueue)
          ∧ receiveChar b s = s.setDev (s.dev.push b).recomputeIrq) := by
  unfold receiveChar dropsCharacter
  cases s.dev.receiverEnabled <;> cases s.params.rxWhileDisabled <;> simp

/-- Everything a line query can do (R263). -/
theorem queryLine_cases (s : State) :
    (∃ p, parityOf s.params s.dev.parRaw = some p
        ∧ queryLine s = s.answer (.line { baud := 115200, stopBits := 1, parity := p }))
      ∨ (parityOf s.params s.dev.parRaw = none
          ∧ queryLine s = (s.setDev (s.dev.raiseFault .parityInvalid)).answer .nothing) := by
  unfold queryLine
  split
  · exact .inl ⟨_, ‹_›, rfl⟩
  · exact .inr ⟨‹_›, rfl⟩

/-! ### Sequences -/

theorem execAll_cons_of_next {i : Instr} {is : List Instr} {s t : State} (h : exec i s = .next t) :
    execAll (i :: is) s = execAll is t := by
  simp only [execAll, h]

end Sys2Proof.Machine
end

