-- ==== Sys2Proof/Laws/Exec.lean ====
section
/-! SUPPORT. What each operation of a running device answers, in terms of the shared operations: one equation per
constructor, which later proofs cite instead of unfolding `exec`. -/

namespace Sys2Proof.Machine

variable {s : State}

theorem exec_rCr (hr : s.Running) :
    exec .rCr s =
      .next (s.answer (.word 0#32)) := by
  simp only [exec, execRCr, readOnly, whenRunning_of_running hr]

theorem exec_rMr (hr : s.Running) :
    exec .rMr s =
      .next (s.answer (.word (modeValue s.dev))) := by
  simp only [exec, execRMr, readOnly, whenRunning_of_running hr]

theorem exec_rIer (hr : s.Running) :
    exec .rIer s =
      .next (s.answer (.word 0#32)) := by
  simp only [exec, execRIer, readOnly, whenRunning_of_running hr]

theorem exec_rIdr (hr : s.Running) :
    exec .rIdr s =
      .next (s.answer (.word 0#32)) := by
  simp only [exec, execRIdr, readOnly, whenRunning_of_running hr]

theorem exec_rImr (hr : s.Running) :
    exec .rImr s =
      .next (s.answer (.word (maskValue s.dev))) := by
  simp only [exec, execRImr, readOnly, whenRunning_of_running hr]

theorem exec_rCsr (hr : s.Running) :
    exec .rCsr s =
      .next (s.answer (.word (statusValue s.dev))) := by
  simp only [exec, execRCsr, readOnly, whenRunning_of_running hr]

theorem exec_rRhr (hr : s.Running) :
    exec .rRhr s =
      .next (receiveRead s) := by
  simp only [exec, execRRhr, whenRunning_of_running hr]

theorem exec_rThr (hr : s.Running) :
    exec .rThr s =
      .next (s.answer (.word 0#32)) := by
  simp only [exec, execRThr, readOnly, whenRunning_of_running hr]

theorem exec_rCmpr (hr : s.Running) :
    exec .rCmpr s =
      .next (s.answer (.word (compareValue s.params s.dev))) := by
  simp only [exec, execRCmpr, readOnly, whenRunning_of_running hr]

theorem exec_wCr (hr : s.Running) (v : Word) :
    exec (.wCr v) s =
      .next ((s.setDev (controlWrite s.params v s.dev)).answer .nothing) := by
  simp only [exec, execWCr, whenRunning_of_running hr]

theorem exec_wMr (hr : s.Running) (v : Word) :
    exec (.wMr v) s =
      .next ((modeDiag v (s.setDev { s.dev with modeSel := MR.mode v, parRaw := MR.par v })).answer .nothing) := by
  simp only [exec, execWMr, whenRunning_of_running hr]

theorem exec_wIer (hr : s.Running) (v : Word) :
    exec (.wIer v) s =
      .next ((s.setDev (maskWrite true v s.dev).recomputeIrq).answer .nothing) := by
  simp only [exec, execWIer, whenRunning_of_running hr]

theorem exec_wIdr (hr : s.Running) (v : Word) :
    exec (.wIdr v) s =
      .next ((s.setDev (maskWrite false v s.dev).recomputeIrq).answer .nothing) := by
  simp only [exec, execWIdr, whenRunning_of_running hr]

theorem exec_wImr (hr : s.Running) (v : Word) :
    exec (.wImr v) s =
      .next (s.answer .nothing) := by
  simp only [exec, execWImr, ignoredWrite, whenRunning_of_running hr]

theorem exec_wCsr (hr : s.Running) (v : Word) :
    exec (.wCsr v) s =
      .next (s.answer .nothing) := by
  simp only [exec, execWCsr, ignoredWrite, whenRunning_of_running hr]

theorem exec_wRhr (hr : s.Running) (v : Word) :
    exec (.wRhr v) s =
      .next ((s.optionalDiag .tagged).answer .nothing) := by
  simp only [exec, execWRhr, whenRunning_of_running hr]

theorem exec_wThr (hr : s.Running) (v : Word) :
    exec (.wThr v) s =
      .next (((transmit v s).optionalDiag .tagged).answer .nothing) := by
  simp only [exec, execWThr, whenRunning_of_running hr]

theorem exec_wCmpr (hr : s.Running) (v : Word) :
    exec (.wCmpr v) s =
      .next (((s.setDev (compareWrite v s.dev)).optionalDiag .tagged).answer .nothing) := by
  simp only [exec, execWCmpr, whenRunning_of_running hr]

theorem exec_evRxchar (hr : s.Running) (b : Byte) :
    exec (.evRxchar b) s =
      .next ((receiveChar b s).answer .nothing) := by
  simp only [exec, execEvRxchar, whenRunning_of_running hr]

theorem exec_evTxdrained (hr : s.Running) :
    exec .evTxdrained s =
      .next ((s.setDev s.dev.recomputeIrq).answer .nothing) := by
  simp only [exec, execEvTxdrained, whenRunning_of_running hr]

theorem exec_evQueryline (hr : s.Running) :
    exec .evQueryline s =
      .next (queryLine s) := by
  simp only [exec, execEvQueryline, whenRunning_of_running hr]

theorem exec_evLineerror (hr : s.Running) (m : BitVec 3) :
    exec (.evLineerror m) s =
      if s.params.lineErrorEvents then .next ((s.setDev (lineError m s.dev)).answer .nothing)
        else .refused .lineErrorNotOffered := by
  simp only [exec, execEvLineerror, whenRunning_of_running hr]

theorem exec_rUnmapped (hr : s.Running) (off : Target) :
    exec (.rUnmapped off) s =
      .next ((s.optionalDiag .unmapped).answer (.word 0#32)) := by
  simp only [exec, execRUnmapped, whenRunning_of_running hr]

theorem exec_wUnmapped (hr : s.Running) (off : Target) (v : Word) :
    exec (.wUnmapped off v) s =
      .next ((s.optionalDiag .unmapped).answer .nothing) := by
  simp only [exec, execWUnmapped, whenRunning_of_running hr]

theorem exec_evReserved (hr : s.Running) (code : Target) :
    exec (.evReserved code) s =
      .refused .reservedEvent := by
  simp only [exec, execEvReserved, whenRunning_of_running hr]

theorem exec_kReserved (hr : s.Running) (low : Target) :
    exec (.kReserved low) s =
      .refused .reservedKind := by
  simp only [exec, execKReserved, whenRunning_of_running hr]

/-- Every operation begins with the guard of R100. -/
theorem exec_guarded (i : Instr) : ∃ k, ∀ s : State, exec i s = whenRunning s k := by
  cases i <;>
    simp only [exec, execRCr, execRMr, execRIer, execRIdr, execRImr, execRCsr, execRRhr, execRThr,
      execRCmpr, execWCr, execWMr, execWIer, execWIdr, execWImr, execWCsr, execWRhr, execWThr,
      execWCmpr, execEvRxchar, execEvTxdrained, execEvQueryline, execEvLineerror, execRUnmapped,
      execWUnmapped, execEvReserved, execKReserved, readOnly, ignoredWrite] <;>
    exact ⟨_, fun _ => rfl⟩

/-- Only a running device takes a step (R303). -/
theorem exec_next_running {i : Instr} {t : State} (h : exec i s = .next t) : s.Running := by
  obtain ⟨k, hk⟩ := exec_guarded i
  rw [hk] at h
  exact (whenRunning_next h).1

end Sys2Proof.Machine
end

