-- ==== Sys2Proof/Laws/DevStep.lean ====
section
/-! SUPPORT. Everything an operation that completes can do to the device: one inductive relation, one constructor for each way,
and the inversion of `exec` into it. Whole-machine rules are proved by cases on it. -/

namespace Sys2Proof.Machine

/-- `DevStep p d i d'`: operation `i` may take the device from `d` to `d'` under parameters `p`. -/
inductive DevStep (p : Params) (d : Device) : Instr → Device → Prop where
  /-- A read other than RHR (R72). -/
  | read (i : Instr) (hk : i.kind = .busRead) (hi : i ≠ .rRhr) : DevStep p d i d
  /-- R181. -/
  | rhrDisabled (h : d.receiverEnabled = false) : DevStep p d .rRhr d.recomputeIrq
  /-- R184. -/
  | rhrEmpty (h : d.receiverEnabled = true) (hf : d.fifo = []) : DevStep p d .rRhr d.recomputeIrq
  /-- R182, R183. -/
  | rhrPop (b : Byte) (rest : List Byte) (h : d.receiverEnabled = true) (hf : d.fifo = b :: rest) :
      DevStep p d .rRhr (d.popped b rest).recomputeIrq
  /-- R120. -/
  | control (v : Word) : DevStep p d (.wCr v) (controlWrite p v d)
  /-- R141. -/
  | mode (v : Word) : DevStep p d (.wMr v) { d with modeSel := MR.mode v, parRaw := MR.par v }
  /-- R220. -/
  | ier (v : Word) : DevStep p d (.wIer v) (maskWrite true v d).recomputeIrq
  /-- R221. -/
  | idr (v : Word) : DevStep p d (.wIdr v) (maskWrite false v d).recomputeIrq
  /-- R240. -/
  | compare (v : Word) : DevStep p d (.wCmpr v) (compareWrite v d)
  /-- R105. -/
  | imr (v : Word) : DevStep p d (.wImr v) d
  /-- R105. -/
  | csr (v : Word) : DevStep p d (.wCsr v) d
  /-- R105. -/
  | rhr (v : Word) : DevStep p d (.wRhr v) d
  /-- R103. -/
  | unmapped (off : Target) (v : Word) : DevStep p d (.wUnmapped off v) d
  /-- R200 with the transmitter disabled. -/
  | thrDisabled (v : Word) (h : d.transmitterEnabled = false) : DevStep p d (.wThr v) d
  /-- R200 with the transmitter enabled. -/
  | thr (v : Word) (h : d.transmitterEnabled = true) : DevStep p d (.wThr v) d.recomputeIrq
  /-- R260, dropped. -/
  | rxDropped (b : Byte) (h : d.receiverEnabled = false) (hp : p.rxWhileDisabled = .drop) :
      DevStep p d (.evRxchar b) d
  /-- R260, enqueued. -/
  | rxPush (b : Byte) (h : d.receiverEnabled = true ∨ p.rxWhileDisabled = .enqueue) :
      DevStep p d (.evRxchar b) (d.push b).recomputeIrq
  /-- R261. -/
  | drained : DevStep p d .evTxdrained d.recomputeIrq
  /-- R263. -/
  | query (par : Parity) (h : parityOf p d.parRaw = some par) : DevStep p d .evQueryline d
  /-- R263, R303. -/
  | queryInvalid (h : parityOf p d.parRaw = none) :
      DevStep p d .evQueryline (d.raiseFault .parityInvalid)
  /-- R265. -/
  | lineError (m : BitVec 3) (h : p.lineErrorEvents = true) :
      DevStep p d (.evLineerror m) (lineError m d)

theorem modeDiag_dev (v : Word) (s : State) : (modeDiag v s).dev = s.dev := by
  unfold modeDiag; split <;> rfl

theorem modeDiag_params (v : Word) (s : State) : (modeDiag v s).params = s.params := by
  unfold modeDiag; split <;> rfl

theorem modeDiag_pending (v : Word) (s : State) : (modeDiag v s).pending = s.pending := by
  unfold modeDiag; split <;> rfl

/-- An operation that completes takes the device along `DevStep`. -/
theorem exec_devStep {i : Instr} {s t : State} (h : exec i s = .next t) :
    DevStep s.params s.dev i t.dev := by
  have hr := exec_next_running h
  cases i
  case rRhr =>
    rw [exec_rRhr hr] at h; cases h
    rcases receiveRead_cases s with ⟨a, e⟩ | ⟨a, b, e⟩ | ⟨a, b, r, f, e⟩ <;> rw [e]
    · exact .rhrDisabled a
    · exact .rhrEmpty a b
    · exact .rhrPop b r a f
  case wThr v =>
    rw [exec_wThr hr] at h; cases h
    rcases transmit_cases v s with ⟨a, e⟩ | ⟨a, e⟩ <;> rw [e]
    · exact .thrDisabled v a
    · exact .thr v a
  case evRxchar b =>
    rw [exec_evRxchar hr] at h; cases h
    rcases receiveChar_cases b s with ⟨a, c, e⟩ | ⟨a, e⟩ <;> rw [e]
    · exact .rxDropped b a c
    · exact .rxPush b a
  case evQueryline =>
    rw [exec_evQueryline hr] at h; cases h
    rcases queryLine_cases s with ⟨par, a, e⟩ | ⟨a, e⟩ <;> rw [e]
    · exact .query par a
    · exact .queryInvalid a
  case evLineerror m =>
    rw [exec_evLineerror hr] at h
    split at h
    · cases h; exact .lineError m ‹_›
    · cases h
  case rCr => rw [exec_rCr hr] at h; cases h; exact .read _ rfl (by decide)
  case rMr => rw [exec_rMr hr] at h; cases h; exact .read _ rfl (by decide)
  case rIer => rw [exec_rIer hr] at h; cases h; exact .read _ rfl (by decide)
  case rIdr => rw [exec_rIdr hr] at h; cases h; exact .read _ rfl (by decide)
  case rImr => rw [exec_rImr hr] at h; cases h; exact .read _ rfl (by decide)
  case rCsr => rw [exec_rCsr hr] at h; cases h; exact .read _ rfl (by decide)
  case rThr => rw [exec_rThr hr] at h; cases h; exact .read _ rfl (by decide)
  case rCmpr => rw [exec_rCmpr hr] at h; cases h; exact .read _ rfl (by decide)
  case rUnmapped => rw [exec_rUnmapped hr] at h; cases h; exact .read _ rfl nofun
  case wCr v => rw [exec_wCr hr] at h; cases h; exact .control v
  case wMr v =>
    rw [exec_wMr hr] at h; cases h
    rw [State.answer_dev, modeDiag_dev]
    exact .mode v
  case wIer v => rw [exec_wIer hr] at h; cases h; exact .ier v
  case wIdr v => rw [exec_wIdr hr] at h; cases h; exact .idr v
  case wCmpr v => rw [exec_wCmpr hr] at h; cases h; exact .compare v
  case wImr v => rw [exec_wImr hr] at h; cases h; exact .imr v
  case wCsr v => rw [exec_wCsr hr] at h; cases h; exact .csr v
  case wRhr v => rw [exec_wRhr hr] at h; cases h; exact .rhr v
  case wUnmapped off v => rw [exec_wUnmapped hr] at h; cases h; exact .unmapped off v
  case evTxdrained => rw [exec_evTxdrained hr] at h; cases h; exact .drained
  case evReserved => rw [exec_evReserved hr] at h; cases h
  case kReserved => rw [exec_kReserved hr] at h; cases h

end Sys2Proof.Machine
end

