-- ==== Sys2Proof/Laws/PerInstr.lean ====
section
/-! SUPPORT. Statements for every operation as syntax, one lemma per constructor. -/

/-- The kind and the target that the selector of an operation holds are the operation's own (R81). -/
def Sys2Proof.Laws.SelectorFields.Statement (i : Sys2Proof.Instr) : Prop :=
  Sys2Proof.selectorKind i.selector = i.kind ∧ Sys2Proof.selectorTarget i.selector = i.target

namespace Sys2Proof.Laws.SelectorFields

theorem of_fields {i : Instr} {sel : Selector} {k : Machine.Kind} {t : Target} (hs : i.selector = sel)
    (hk : i.kind = k) (ht : i.target = t) (h : selectorKind sel = k ∧ selectorTarget sel = t) :
    Statement i := by
  subst hs hk ht
  exact h

theorem rCr : Statement (.rCr) :=
  of_fields (sel := 0x0000#16) (k := .busRead) (t := 0x00#14) rfl rfl rfl (by decide)
theorem rMr : Statement (.rMr) :=
  of_fields (sel := 0x0004#16) (k := .busRead) (t := 0x04#14) rfl rfl rfl (by decide)
theorem rIer : Statement (.rIer) :=
  of_fields (sel := 0x0008#16) (k := .busRead) (t := 0x08#14) rfl rfl rfl (by decide)
theorem rIdr : Statement (.rIdr) :=
  of_fields (sel := 0x000C#16) (k := .busRead) (t := 0x0C#14) rfl rfl rfl (by decide)
theorem rImr : Statement (.rImr) :=
  of_fields (sel := 0x0010#16) (k := .busRead) (t := 0x10#14) rfl rfl rfl (by decide)
theorem rCsr : Statement (.rCsr) :=
  of_fields (sel := 0x0014#16) (k := .busRead) (t := 0x14#14) rfl rfl rfl (by decide)
theorem rRhr : Statement (.rRhr) :=
  of_fields (sel := 0x0018#16) (k := .busRead) (t := 0x18#14) rfl rfl rfl (by decide)
theorem rThr : Statement (.rThr) :=
  of_fields (sel := 0x001C#16) (k := .busRead) (t := 0x1C#14) rfl rfl rfl (by decide)
theorem rCmpr : Statement (.rCmpr) :=
  of_fields (sel := 0x0024#16) (k := .busRead) (t := 0x24#14) rfl rfl rfl (by decide)
theorem wCr (v : Word) : Statement (.wCr v) :=
  of_fields (sel := 0x4000#16) (k := .busWrite) (t := 0x00#14) rfl rfl rfl (by decide)
theorem wMr (v : Word) : Statement (.wMr v) :=
  of_fields (sel := 0x4004#16) (k := .busWrite) (t := 0x04#14) rfl rfl rfl (by decide)
theorem wIer (v : Word) : Statement (.wIer v) :=
  of_fields (sel := 0x4008#16) (k := .busWrite) (t := 0x08#14) rfl rfl rfl (by decide)
theorem wIdr (v : Word) : Statement (.wIdr v) :=
  of_fields (sel := 0x400C#16) (k := .busWrite) (t := 0x0C#14) rfl rfl rfl (by decide)
theorem wImr (v : Word) : Statement (.wImr v) :=
  of_fields (sel := 0x4010#16) (k := .busWrite) (t := 0x10#14) rfl rfl rfl (by decide)
theorem wCsr (v : Word) : Statement (.wCsr v) :=
  of_fields (sel := 0x4014#16) (k := .busWrite) (t := 0x14#14) rfl rfl rfl (by decide)
theorem wRhr (v : Word) : Statement (.wRhr v) :=
  of_fields (sel := 0x4018#16) (k := .busWrite) (t := 0x18#14) rfl rfl rfl (by decide)
theorem wThr (v : Word) : Statement (.wThr v) :=
  of_fields (sel := 0x401C#16) (k := .busWrite) (t := 0x1C#14) rfl rfl rfl (by decide)
theorem wCmpr (v : Word) : Statement (.wCmpr v) :=
  of_fields (sel := 0x4024#16) (k := .busWrite) (t := 0x24#14) rfl rfl rfl (by decide)
theorem evRxchar (b : Byte) : Statement (.evRxchar b) :=
  of_fields (sel := 0x8001#16) (k := .event) (t := 0x01#14) rfl rfl rfl (by decide)
theorem evTxdrained : Statement (.evTxdrained) :=
  of_fields (sel := 0x8002#16) (k := .event) (t := 0x02#14) rfl rfl rfl (by decide)
theorem evQueryline : Statement (.evQueryline) :=
  of_fields (sel := 0x8003#16) (k := .event) (t := 0x03#14) rfl rfl rfl (by decide)
theorem evLineerror (m : BitVec 3) : Statement (.evLineerror m) :=
  of_fields (sel := 0x8004#16) (k := .event) (t := 0x04#14) rfl rfl rfl (by decide)
theorem rUnmapped (off : Target) : Statement (.rUnmapped off) :=
  ⟨selectorKind_mkSelector _ _, selectorTarget_mkSelector _ _⟩
theorem wUnmapped (off : Target) (v : Word) : Statement (.wUnmapped off v) :=
  ⟨selectorKind_mkSelector _ _, selectorTarget_mkSelector _ _⟩
theorem evReserved (code : Target) : Statement (.evReserved code) :=
  ⟨selectorKind_mkSelector _ _, selectorTarget_mkSelector _ _⟩
theorem kReserved (low : Target) : Statement (.kReserved low) :=
  ⟨selectorKind_mkSelector _ _, selectorTarget_mkSelector _ _⟩

end Sys2Proof.Laws.SelectorFields
end

