-- ==== Sys2Proof/Machine/Pseudo.lean ====
section
/-! DEFINITION. The pseudo-operations of R96: each stands for exactly one operation. They are no constructors of their own. -/

namespace Sys2Proof.Machine

/-- `PAR_CODE⁻¹(p)`: the PAR value that the table maps to a parity type (R13). DESIGN CHOICE, safe (log entry 17): R13 does not say
which value it is where the table maps several to one type, nor what it is where the table maps none; the model takes the least
value, and answers `none`. Under the default table each type has exactly one value and no choice arises. -/
def parityCode (p : Params) (q : Parity) : Option (BitVec 3) :=
  [0#3, 1#3, 2#3, 3#3, 4#3, 5#3, 6#3, 7#3].find? fun n => parityOf p n == some q

def pseudoRxen : Instr := .wCr 0x00000010#32
def pseudoRxdis : Instr := .wCr 0x00000020#32
def pseudoTxen : Instr := .wCr 0x00000040#32
def pseudoTxdis : Instr := .wCr 0x00000080#32
def pseudoRstrx : Instr := .wCr 0x00000004#32
def pseudoRsttx : Instr := .wCr 0x00000008#32
def pseudoRststa : Instr := .wCr 0x00000100#32
def pseudoIen (m : Word) : Instr := .wIer m
def pseudoIdis (m : Word) : Instr := .wIdr m

/-- `SETPAR p` (R96): also writes MODE = 0. It writes the value `parityCode` picks, and spells no operation for a type the table does
not map (DESIGN CHOICE, safe: log entry 17). -/
def pseudoSetpar (p : Params) (q : Parity) : Option Instr :=
  (parityCode p q).map fun n => .wMr ((BitVec.setWidth 32 n : Word) <<< (9 : Nat))

def pseudoSetcmp (lo hi : Byte) (en : Bool) : Instr :=
  .wCmpr (lo.setWidth 32 ||| flagAt en 12 ||| (hi.setWidth 32 <<< 16))

def pseudoPutc (b : Byte) : Instr := .wThr (b.setWidth 32)
def pseudoGetc : Instr := .rRhr

end Sys2Proof.Machine
end

