-- ==== Sys2Proof/Tests/Slice0.lean ====
section
/-! SUPPORT. Tests: the encodings written out from the spec, one step each from small states with the results of 95_test_vectors.md,
the ill-formed terms, and a witness for the hypotheses of every statement. -/

namespace Sys2Proof.Tests

open Sys2Proof Sys2Proof.Machine

/-! ### Helpers -/

/-- The construction state with another device and other parameters. -/
def start (d : Device) (p : Params := Params.default) : State := { State.reset with dev := d, params := p }

/-- The device at construction. -/
abbrev d0 : Device := Device.reset

/-- Apply `f` to the next state, if there is one. -/
def after {α : Type} (o : Result) (f : State → α) : Option α :=
  match o with
  | .next t => some (f t)
  | .fault _ => none
  | .refused _ => none

/-! ### Decoding: selectors written out from 30_encoding.md R81, R86 and 95_test_vectors.md L2-J -/

theorem test_decode_r_rhr : decodeTableWord 16 0b0000000000011000 = some .rRhr := by decide
theorem test_decode_r_cmpr : decodeTableWord 16 0b0000000000100100 = some .rCmpr := by decide
theorem test_decode_w_cr : decode (.operation 0b0100000000000000#16 .word 0x50#32) = .instr (.wCr 0x50#32) := by decide
theorem test_decode_w_mr : decode (.operation 0b0100000000000100#16 .word 0x800#32) = .instr (.wMr 0x800#32) := by decide
theorem test_decode_r_csr : decodeTableWord 16 0b0000000000010100 = some .rCsr := by decide
theorem test_decode_w_thr : decode (.operation 0b0100000000011100#16 .word 0x48#32) = .instr (.wThr 0x48#32) := by decide
theorem test_decode_w_idr : decode (.operation 0b0100000000001100#16 .word 2#32) = .instr (.wIdr 2#32) := by decide
theorem test_decode_w_rhr : decodeTableWord 16 0b0100000000011000 = some (.wRhr 0) := by decide
theorem test_decode_ev_rxchar : decode (.operation 0b1000000000000001#16 .word 0x48#32) = .instr (.evRxchar 0x48#8) := by decide
theorem test_decode_ev_lineerror : decode (.operation 0b1000000000000100#16 .word 5#32) = .instr (.evLineerror 5#3) := by decide
theorem test_decode_unmapped : decodeTableWord 16 0x0020 = some (.rUnmapped 0x20#14) := by decide
theorem test_decode_misaligned : decodeTableWord 16 0x0002 = some (.rUnmapped 2#14) := by decide
theorem test_decode_w_unmapped : decodeTableWord 16 0x7FFF = some (.wUnmapped 0x3FFF#14 0) := by decide
theorem test_decode_ev_reserved : decodeTableWord 16 0x8000 = some (.evReserved 0#14) := by decide
theorem test_decode_ev_reserved_top : decodeTableWord 16 0xBFFF = some (.evReserved 0x3FFF#14) := by decide
theorem test_decode_k_reserved : decodeTableWord 16 0xC000 = some (.kReserved 0#14) := by decide
theorem test_decode_subword : decode (.operation 0x0018#16 .byte 0#32) = .reject .subWordAccess := by decide
theorem test_decode_operand_bits : decodeTableWord 48 0x00000050_4000 = some (.wCr 0x50#32) := by decide

theorem test_encode_w_cr : encode (.wCr 0x50#32) = .operation 0x4000#16 .word 0x50#32 := by decide
theorem test_encode_k_reserved : encode (.kReserved 0x3FFF#14) = .operation 0xFFFF#16 .word 0#32 := by decide

/-- R86: the rows the encoder and the decoder share, one operation of each specific row. -/
theorem test_round_trip_of_each_row :
    ∀ i ∈ [Instr.rCr, .rMr, .rIer, .rIdr, .rImr, .rCsr, .rRhr, .rThr, .rCmpr, .wCr 1#32, .wMr 2#32, .wIer 3#32,
      .wIdr 4#32, .wImr 5#32, .wCsr 6#32, .wRhr 7#32, .wThr 8#32, .wCmpr 9#32, .evRxchar 0xFF#8, .evTxdrained,
      .evQueryline, .evLineerror 7#3], decode (encode i) = .instr i := by decide

/-! ### Ill-formed terms -/

theorem test_wf_refuses_register_as_unmapped_read : ¬ (Instr.rUnmapped 0x24#14).WellFormed := by decide
theorem test_wf_refuses_register_as_unmapped_write : ¬ (Instr.wUnmapped 0x00#14 0#32).WellFormed := by decide
theorem test_wf_refuses_event_as_reserved : ¬ (Instr.evReserved 4#14).WellFormed := by decide

/-! ### Register file access (L2-A) -/

theorem test_r_cr_is_zero : after (exec .rCr (start { d0 with receiverEnabled := true })) (·.response) = some (.word 0#32) := by decide
theorem test_r_ier_is_zero : after (exec .rIer (start { d0 with receiverReadyIrqEnabled := true })) (·.response) = some (.word 0#32) := by decide
theorem test_r_idr_is_zero : after (exec .rIdr (start { d0 with transmitterReadyIrqEnabled := true })) (·.response) = some (.word 0#32) := by decide
theorem test_r_thr_is_zero : after (exec .rThr (start { d0 with transmitterEnabled := true })) (·.response) = some (.word 0#32) := by decide
theorem test_w_imr_ignored : after (exec (.wImr 3#32) State.reset) (·.dev) = some d0 := by decide
theorem test_w_csr_ignored : after (exec (.wCsr 0#32) (start { d0 with compareSucceeded := true, overrunError := true })) (fun t => (t.dev.compareSucceeded, t.dev.overrunError)) = some (true, true) := by decide
theorem test_w_rhr_ignored : after (exec (.wRhr 0x41#32) (start { d0 with receiverEnabled := true })) (·.dev.fifo) = some [] := by decide
theorem test_r_unmapped_inside_rhr : after (exec (.rUnmapped 0x19#14) (start { d0 with receiverEnabled := true, fifo := [0x41#8] })) (fun t => (t.response, t.dev.fifo)) = some (.word 0#32, [0x41#8]) := by decide
theorem test_w_unmapped_ignored : after (exec (.wUnmapped 0x20#14 0xFFFFFFFF#32) State.reset) (·.dev) = some d0 := by decide
theorem test_subword_refused : step { (start { d0 with fifo := [0x41#8] }) with pending := [.operation 0x0018#16 .byte 0#32] } = .refused .subWordAccess := rfl
theorem test_faulted_has_no_step : exec .rCsr (start { d0 with faulted := some .parityInvalid }) = .fault (.stuck .parityInvalid) := rfl

/-! ### Control (L1-2, L2-B) -/

/-- L1-2 (c): RSTRX with RXEN leaves the receiver enabled and the stale RXRDY. -/
theorem test_w_cr_rstrx_rxen : after (exec (.wCr 0x14#32) (start { d0 with receiverEnabled := true, fifo := [0x41#8, 0x42#8], receiverReady := true }))
    (fun t => (t.dev.fifo, t.dev.receiverEnabled, t.dev.receiverReady)) = some ([], true, true) := by decide

/-- L2-B: every command bit at once, under RSTRX_CLEARS_RXRDY = true. -/
theorem test_w_cr_all_bits : after (exec (.wCr 0x11FC#32) (start
      { d0 with receiverEnabled := true, transmitterEnabled := true, receiverReadyIrqEnabled := true, transmitterReadyIrqEnabled := true, receiverReady := true, fifo := [1#8, 2#8], overrunError := true, frameError := true, parityError := true, compareSucceeded := true }
      { Params.default with rstrxClearsRxrdy := true }))
    (·.dev) = some { d0 with receiverEnabled := true, receiverReadyIrqEnabled := true, transmitterReadyIrqEnabled := true } := by decide

/-! ### Mode (L2-C) -/

theorem test_w_mr_all_ones : after (exec (.wMr 0xFFFF#32) State.reset) (fun t => (t.dev.modeSel, t.dev.parRaw, t.outputs)) = some (0xF#4, 7#3, [.diag .modeNonzero]) := by decide
theorem test_w_mr_sets_both : after (exec (.wMr 0x200#32) (start { d0 with parRaw := 4#3, modeSel := 3#4 })) (fun t => (t.dev.modeSel, t.dev.parRaw)) = some (0#4, 1#3) := by decide
theorem test_r_mr : after (exec .rMr (start { d0 with parRaw := 7#3, modeSel := 0xF#4 })) (·.response) = some (.word 0x00000E0F#32) := by decide

/-! ### Channel status (L2-D) -/

theorem test_r_csr_all : after (exec .rCsr (start { d0 with receiverReady := true, transmitterEnabled := true, overrunError := true, frameError := true, parityError := true, compareSucceeded := true })) (·.response) = some (.word 0x000080E3#32) := by decide
theorem test_r_csr_hidden : after (exec .rCsr (start { d0 with receiverEnabled := true, receiverReadyIrqEnabled := true, transmitterReadyIrqEnabled := true })) (·.response) = some (.word 0#32) := by decide

/-! ### Receive holding (L2-E) -/

theorem test_r_rhr_upper_bound : after (exec .rRhr (start { d0 with receiverEnabled := true, compareModeEnable := true, compareVal1 := 0x30#8, compareVal2 := 0x39#8, fifo := [0x39#8], receiverReady := true }))
    (fun t => (t.response, t.dev.compareSucceeded, t.dev.receiverReady)) = some (.word 0x39#32, true, false) := by decide

theorem test_r_rhr_stale : after (exec .rRhr (start { d0 with receiverEnabled := true, receiverReady := true })) (fun t => (t.dev.receiverReady, t.outputs)) = some (true, [.diag .emptyRhr]) := by decide

/-! ### Transmit holding (L2-F) -/

theorem test_w_thr_disabled : after (exec (.wThr 0x41#32) State.reset) (·.dev) = some d0 := by decide
theorem test_w_thr_low_byte : after (exec (.wThr 0x141#32) (start { d0 with transmitterEnabled := true })) (·.outputs.head?) = some (some (.txByte 0x41#8)) := by decide

/-! ### Interrupts (L1-4, L2-G) -/

theorem test_w_ier_raises_tx : after (exec (.wIer 2#32) (start { d0 with transmitterEnabled := true })) (fun t => (t.dev.transmitterReadyIrqEnabled, t.dev.irqLine)) = some (true, true) := by decide
theorem test_w_ier_not_error_bits : after (exec (.wIer 0x80E0#32) (start { d0 with overrunError := true, compareSucceeded := true })) (fun t => (t.dev.receiverReadyIrqEnabled, t.dev.irqLine)) = some (false, false) := by decide
theorem test_w_idr_keeps_rx_term : after (exec (.wIdr 2#32) (start { d0 with receiverEnabled := true, receiverReadyIrqEnabled := true, receiverReady := true, transmitterEnabled := true, transmitterReadyIrqEnabled := true, irqLine := true })) (·.dev.irqLine) = some true := by decide
theorem test_w_idr_drops_tx : after (exec (.wIdr 2#32) (start { d0 with transmitterEnabled := true, transmitterReadyIrqEnabled := true, irqLine := true })) (·.dev.irqLine) = some false := by decide
theorem test_r_imr : after (exec .rImr (start { d0 with transmitterReadyIrqEnabled := true })) (·.response) = some (.word 2#32) := by decide

/-! ### Compare (L2-H) -/

theorem test_w_cmpr : after (exec (.wCmpr 0xFF00EFFF#32) State.reset) (fun t => (t.dev.compareVal1, t.dev.compareModeEnable, t.dev.compareVal2)) = some (0xFF#8, false, 0#8) := by decide
theorem test_r_cmpr_zero : after (exec .rCmpr (start { d0 with compareVal1 := 0x30#8 })) (·.response) = some (.word 0#32) := by decide
theorem test_r_cmpr_stored : after (exec .rCmpr (start { d0 with compareVal1 := 0x30#8, compareModeEnable := true, compareVal2 := 0x39#8 } { Params.default with cmprReadback := .stored })) (·.response) = some (.word 0x00391030#32) := by decide

/-! ### Transport events (L2-I) -/

theorem test_rxchar_drop : after (exec (.evRxchar 0x41#8) State.reset) (·.dev) = some d0 := by decide
theorem test_rxchar_enqueue : after (exec (.evRxchar 0x41#8) (start d0 { Params.default with rxWhileDisabled := .enqueue })) (fun t => (t.dev.fifo, t.dev.receiverReady, t.dev.irqLine)) = some ([0x41#8], true, false) := by decide
theorem test_txdrained : after (exec .evTxdrained (start { d0 with transmitterEnabled := true })) (·.dev) = some { d0 with transmitterEnabled := true } := by decide
theorem test_queryline_odd : after (exec .evQueryline (start { d0 with parRaw := 1#3 })) (·.response) = some (.line { baud := 115200, stopBits := 1, parity := .odd }) := by decide
theorem test_queryline_invalid : after (exec .evQueryline (start { d0 with parRaw := 6#3 })) (·.dev.faulted) = some (some .parityInvalid) := by decide
theorem test_lineerror : after (exec (.evLineerror 5#3) State.reset) (fun t => (t.dev.overrunError, t.dev.frameError, t.dev.parityError)) = some (true, false, true) := by decide
theorem test_ev_reserved : exec (.evReserved 5#14) State.reset = .refused .reservedEvent := rfl
theorem test_k_reserved : exec (.kReserved 0#14) State.reset = .refused .reservedKind := rfl

/-! ### Steps and pseudo-operations -/

theorem test_step_runs_fetch_word : (after (step (State.reset.withFetchWord 16 0x8001)) (·.pending)) = some [] := by decide
theorem test_step_unmapped_completes : (after (step (State.reset.withFetchWord 16 0x0020)) (·.response)) = some (.word 0#32) := by decide
theorem test_step_idle : step State.reset = .next State.reset := rfl
theorem test_setpar_none : pseudoSetpar Params.default .no = some (.wMr 0x800#32) := by decide
theorem test_setcmp : pseudoSetcmp 0x30#8 0x39#8 true = .wCmpr 0x00391030#32 := by decide

/-! ### Witnesses: concrete states and operands that meet the hypotheses of each statement -/

/-- A running device with bytes waiting, the receiver and its IRQ enabled. -/
abbrev rx : State :=
  start { d0 with receiverEnabled := true, receiverReady := true, receiverReadyIrqEnabled := true, fifo := [0x41#8, 0x42#8], irqLine := true }

/-- A running device with the transmitter and its IRQ enabled. -/
abbrev tx : State := start { d0 with transmitterEnabled := true, transmitterReadyIrqEnabled := true, irqLine := true }

/-- A device whose stored PAR is invalid. -/
abbrev badPar : State := start { d0 with parRaw := 7#3 }

/-- A faulted device. -/
abbrev stuck : State := start { d0 with faulted := some .parityInvalid }

/-- The running states that the statements "for every running state" speak of. -/
theorem witness_Running : State.reset.Running ∧ rx.Running ∧ tx.Running ∧ badPar.Running := by decide

theorem witness_StepKeepsReadyAndIrqInvariants : rx.dev.Inv ∧ ∃ t, step { rx with pending := [encode .rRhr] } = .next t := ⟨by decide, _, rfl⟩
theorem witness_EveryRegisterReadsZeroAtReset : Instr.rCmpr ∈ [Instr.rCr, .rMr, .rIer, .rIdr, .rImr, .rCsr, .rRhr, .rThr, .rCmpr] := by decide
theorem witness_DecodeOfEncodeIsTheOperation : (Instr.rUnmapped 0x20#14).WellFormed ∧ (Instr.wUnmapped 0x3FFF#14 0#32).WellFormed
    ∧ (Instr.evReserved 5#14).WellFormed ∧ (Instr.kReserved 0#14).WellFormed ∧ (Instr.wCr 0xFFFFFFFF#32).WellFormed := by decide
theorem witness_DecoderTakesFirstMatchingRow : AccessSize.byte ≠ .word ∧ AccessSize.half ≠ .word := by decide
theorem witness_BusAccessReachesItsOffset : Config.uartBase + 0x4000 ≤ Config.uartBase + 0x4000 ∧ AccessSize.half ≠ .word := ⟨Nat.le_refl _, by decide⟩
theorem witness_BusAccessReachesItsOffset_top : decode (.busRead (Config.uartBase + 0x3FFF) .word) = .instr (.rUnmapped 0x3FFF#14) := by
  simp [decode, decodeAccess, sizeAdmitted, busOffset]
  decide
theorem witness_StepRunsTheDecodedOperation : ({ rx with pending := [encode .rRhr] } : State).Running
    ∧ ({ rx with pending := [encode .rRhr] } : State).pending = encode .rRhr :: [] ∧ decode (encode .rRhr) = .instr .rRhr
    ∧ State.reset.pending = [] := by decide
theorem witness_StepRefusesRejectedRequests_size : decode (.operation 0x4000#16 .half 0#32) = .reject .subWordAccess := by decide
theorem witness_StepRefusesRejectedRequests_footprint : decode (.busRead (Config.uartBase + 0x4000) .word) = .reject .outOfFootprint := by
  simp [decode, decodeAccess, sizeAdmitted, busOffset]
theorem witness_FaultedDeviceHasNoStep : stuck.dev.faulted = some .parityInvalid := by decide
theorem witness_WriteOnlyRegistersReadZero : State.reset.Running ∧ Instr.rThr ∈ [Instr.rCr, .rIer, .rIdr, .rThr] := by decide
theorem witness_ReadOnlyRegistersIgnoreWrites : rx.Running := by decide
theorem witness_UnrecognizedOffsetsReadZeroIgnoreWrites : rx.Running := by decide
theorem witness_ControlWriteFollowsItsPrecedence : rx.Running := by decide
theorem witness_ReceiverOutcomeOfControlWrite : rx.Running := by decide
theorem witness_TransmitterOutcomeOfControlWrite : tx.Running := by decide
theorem witness_StatusResetClearsExactlyFourFlags : State.reset.Running ∧ (0x100#32 : Word).getLsbD 8 = true := by decide
theorem witness_ModeWriteStoresModeAndParity : State.reset.Running ∧ (0xF#32 : Word).setWidth 4 ≠ 0#4 ∧ (0x10#32 : Word).setWidth 4 = 0#4 := by decide
theorem witness_ModeReadReturnsModeAndParity : badPar.Running := by decide
theorem witness_ModeReadsBackWhatWasWritten : State.reset.Running := by decide
theorem witness_StoredModeChangesNoBehaviour : Instr.rRhr ≠ .rMr ∧ (∀ v, Instr.rRhr ≠ .wMr v) ∧ rx.Running ∧ ∃ t, exec .rMr rx = .next t :=
  ⟨by decide, nofun, by decide, _, rfl⟩
theorem witness_StatusReadReportsEachFlag : rx.Running ∧ (2 : Nat) ∉ [0, 1, 5, 6, 7, 15] := by decide
theorem witness_StatusReadIsUnaffectedByItself : rx.Running ∧ (rx.answer (.word 9#32)).dev = rx.dev ∧ ∃ w, exec .rCsr (rx.answer (.word 9#32)) = .next w := ⟨by decide, by decide, _, rfl⟩
theorem witness_TxrdyMirrorsTransmitterEnabled : (∃ t, exec (.wThr 1#32) tx = .next t) ∧ ∀ v, Instr.wThr 1#32 ≠ .wCr v := ⟨⟨_, rfl⟩, nofun⟩
theorem witness_ReceiveReadWhileDisabledReturnsZero : State.reset.Running ∧ State.reset.dev.receiverEnabled = false := by decide
theorem witness_ReceiveReadPopsTheHead : rx.Running ∧ rx.dev.receiverEnabled = true ∧ rx.dev.fifo = 0x41#8 :: [0x42#8] := by decide
theorem witness_ReceiveReadOfEmptyFifoCompletes : (start { d0 with receiverEnabled := true }).Running
    ∧ (start { d0 with receiverEnabled := true }).dev.receiverEnabled = true ∧ (start { d0 with receiverEnabled := true }).dev.fifo = [] := by decide
theorem witness_FifoKeepsArrivalOrder : rx.Running ∧ rx.dev.receiverEnabled = true ∧ rx.dev.fifo ++ [1#8, 2#8] = [0x41#8, 0x42#8, 1#8] ++ 2#8 :: [] := by decide
theorem witness_FifoChangesOnlyByReceiveReadAndReset : ∃ t, exec (.wCr 4#32) rx = .next t := ⟨_, rfl⟩
theorem witness_TransmitWriteHandsOverTheLowByte : tx.Running ∧ tx.dev.transmitterEnabled = true ∧ rx.Running ∧ rx.dev.transmitterEnabled = false := by decide
theorem witness_OutputsComeInIssueOrder : ∃ t, exec (.wThr 1#32) tx = .next t := ⟨_, rfl⟩
theorem witness_InterruptEnableSetsMaskBits : State.reset.Running := by decide
theorem witness_InterruptDisableClearsMaskBits : tx.Running := by decide
theorem witness_InterruptMaskReadShowsTheEnables : tx.Running ∧ (2 : Nat) ≤ 2 := by decide
theorem witness_LastMaskWriteWins : State.reset.Running := by decide
theorem witness_TransmitInterruptHolds : tx.Running ∧ tx.dev.transmitterEnabled = true ∧ tx.dev.transmitterReadyIrqEnabled = true ∧ tx.dev.irqLine = true
    ∧ ∀ i ∈ [Instr.wThr 5#32], i = .evTxdrained ∨ ∃ v, i = .wThr v :=
  ⟨by decide, by decide, by decide, by decide, fun i hi => .inr ⟨5#32, List.mem_singleton.1 hi⟩⟩
theorem witness_ErrorFlagsRaiseNoInterrupt : (∃ t, exec (.wIer 3#32) rx = .next t) ∧ ∃ u, exec (.wIer 3#32) (rx.withErrorFlags true true true true) = .next u := ⟨⟨_, rfl⟩, _, rfl⟩
theorem witness_CompareWriteStoresItsThreeFields : State.reset.Running := by decide
theorem witness_CompareReadFollowsReadback : State.reset.Running ∧ State.reset.params.cmprReadback = .zero
    ∧ (start d0 { Params.default with cmprReadback := .stored }).params.cmprReadback = .stored := by decide
theorem witness_ReceiveEventEnqueuesOrDrops : State.reset.Running ∧ State.reset.dev.receiverEnabled = false ∧ State.reset.params.rxWhileDisabled = .drop
    ∧ rx.Running ∧ rx.dev.receiverEnabled = true ∧ (start d0 { Params.default with rxWhileDisabled := .enqueue }).params.rxWhileDisabled = .enqueue := by decide
theorem witness_TxDrainedOnlyRecomputes : tx.Running ∧ tx.dev.IrqInv := by decide
theorem witness_LineQueryReturnsParametersOrFaults : State.reset.Running ∧ parityOf State.reset.params State.reset.dev.parRaw = some .even
    ∧ badPar.Running ∧ parityOf badPar.params badPar.dev.parRaw = none := by decide
theorem witness_ParityRoundTrip : State.reset.Running ∧ parityOf State.reset.params 4#3 = some .no := by decide
theorem witness_LineErrorSetsItsFlags : State.reset.Running ∧ State.reset.params.lineErrorEvents = true
    ∧ (start d0 { Params.default with lineErrorEvents := false }).params.lineErrorEvents = false := by decide
theorem witness_ReservedSelectorsAreRefused : State.reset.Running := by decide
theorem witness_NoBusOperationEndsInAnError : rx.Running ∧ Instr.rRhr.kind = .busRead ∧ (Instr.wCr 0#32).kind = .busWrite := by decide
theorem witness_OnlyReceiveReadsHaveSideEffects : Instr.rCsr.kind = .busRead ∧ Instr.rCsr ≠ .rRhr ∧ (∃ t, exec .rCsr rx = .next t)
    ∧ Instr.rRhr.kind = .busRead ∧ State.reset.dev.receiverEnabled = false ∧ State.reset.dev.IrqInv ∧ (∃ t, exec .rRhr State.reset = .next t)
    ∧ rx.dev.receiverEnabled = true ∧ rx.dev.fifo ≠ [] ∧ ∃ t, exec .rRhr rx = .next t :=
  ⟨by decide, by decide, ⟨_, rfl⟩, by decide, by decide, by decide, ⟨_, rfl⟩, by decide, by decide, _, rfl⟩
theorem witness_RegisterWritesAreIdempotent : ∃ t u, exec (.wCr 0x50#32) rx = .next t ∧ exec (.wCr 0x50#32) t = .next u := ⟨_, _, rfl, rfl⟩
theorem witness_EachFieldHasItsOneWriter : ∃ t, exec (.evRxchar 1#8) rx = .next t := ⟨_, rfl⟩
theorem witness_ReceiverReadyRisesAndFallsOnlySo_rise :
    after (exec (.evRxchar 1#8) (start { d0 with receiverEnabled := true })) (·.dev.receiverReady) = some true := by decide
theorem witness_ReceiverReadyRisesAndFallsOnlySo_fall :
    after (exec .rRhr (start { d0 with receiverEnabled := true, receiverReady := true, fifo := [1#8] })) (·.dev.receiverReady) = some false := by decide
theorem witness_LatchedFlagsFallOnlyByStatusReset :
    after (exec .rRhr (start { d0 with receiverEnabled := true, receiverReady := true, fifo := [1#8], compareModeEnable := true, compareVal2 := 1#8, overrunError := true }))
      (fun t => (t.dev.compareSucceeded, t.dev.overrunError)) = some (true, true) := by decide
theorem witness_OnlyAnInvalidLineQueryFaults : (∃ t, exec .evQueryline badPar = .next t) ∧ ∃ t, exec .evQueryline State.reset = .next t := ⟨⟨_, rfl⟩, _, rfl⟩
theorem witness_NoStepWritesParameters : (∃ t, step { rx with pending := [encode (.wCr 4#32)] } = .next t) ∧ ∃ t, exec (.wCr 4#32) rx = .next t := ⟨⟨_, rfl⟩, _, rfl⟩
theorem witness_TransportEventsNeverTakeAByte : (∀ i ∈ [Instr.evRxchar 7#8, .evTxdrained], i.kind = .event) ∧ rx.dev.fifo = 0x41#8 :: [0x42#8]
    ∧ ∃ t, execAll [.evRxchar 7#8, .evTxdrained] rx = .next t := ⟨by decide, by decide, _, rfl⟩
theorem witness_StaleReadyAfterReceiverReset : rx.Running ∧ rx.params.rstrxClearsRxrdy = false ∧ rx.dev.receiverReady = true ∧ rx.dev.receiverReadyIrqEnabled = true := by decide
theorem witness_StaleReadyAfterReceiverReset_masked : (start { d0 with receiverReady := true }).Running
    ∧ (start { d0 with receiverReady := true }).params.rstrxClearsRxrdy = false ∧ (start { d0 with receiverReady := true }).dev.receiverReady = true
    ∧ (start { d0 with receiverReady := true }).dev.receiverReadyIrqEnabled = false := by decide

end Sys2Proof.Tests
end

section
/-! What a bus access decodes to (R60 to R63), and what an operation does to the parameters, the requests still to come
and the outputs: it keeps the first two, and appends to the third the byte of a THR write and at most one diagnostic. -/

namespace Sys2Proof

open Sys2Proof.Machine

/-! ### Bus accesses -/

theorem sizeAdmitted_word (k : Kind) : sizeAdmitted k .word = true := by cases k <;> rfl

theorem decodeAccess_base_add (k : Kind) (off : Target) (v : Word) :
    decodeAccess k (Config.uartBase + off.toNat) .word v = .instr (decodeSelector (mkSelector k off) v) := by
  simp only [decodeAccess, sizeAdmitted_word, busOffset_base_add, if_true]

theorem decodeAccess_outside (k : Kind) {addr : Nat} (v : Word)
    (h : addr < Config.uartBase ∨ Config.uartBase + 0x4000 ≤ addr) :
    decodeAccess k addr .word v = .reject .outOfFootprint := by
  simp only [decodeAccess, sizeAdmitted_word, busOffset_outside h, if_true]

/-- The size is looked at before the address (R100). -/
theorem decodeAccess_of_not_admitted {k : Kind} {size : AccessSize} (addr : Nat) (v : Word)
    (h : sizeAdmitted k size = false) : decodeAccess k addr size v = .reject .subWordAccess := by
  simp [decodeAccess, h]

/-- Settles O9: each clause is one branch of `decodeAccess`. -/
theorem busAccessReachesItsOffset : Obligations.BusAccessReachesItsOffset := by
  refine ⟨fun off v => ⟨decodeAccess_base_add .busRead off 0#32, decodeAccess_base_add .busWrite off v⟩,
    fun addr v h => ⟨decodeAccess_outside .busRead 0#32 h, decodeAccess_outside .busWrite v h⟩,
    fun addr size v h => ?_⟩
  have hsize : (size == .word) = false := beq_false_of_ne h
  exact ⟨decodeAccess_of_not_admitted addr 0#32 hsize, decodeAccess_of_not_admitted addr v hsize⟩

end Sys2Proof

namespace Sys2Proof.Machine

/-! ### Around the device -/

/-- Where no output is appended, any diagnostic witnesses `MayEmit`. -/
theorem exists_mayEmit_of_silent {s t : State} (hparams : t.params = s.params)
    (hpending : t.pending = s.pending) (hout : t.outputs = s.outputs) : ∃ d, s.MayEmit t d :=
  ⟨.tagged, hparams, hpending, .inl hout⟩

/-- A Mode write emits one diagnostic or, where MODE is 0, perhaps one (R141, R106). -/
theorem modeDiag_mayEmit (v : Word) (s : State) (dev : Device) (r : Response) :
    ∃ d, s.MayEmit ((modeDiag v (s.setDev dev)).answer r) d := by
  unfold modeDiag
  split
  · exact ⟨.tagged, optionalDiag_mayEmit (s.setDev dev) .tagged r⟩
  · exact ⟨.modeNonzero, rfl, rfl, .inr rfl⟩

/-- A THR write is the hand-off of its byte, then perhaps DG_TAGGED (R200, R106). -/
theorem exec_wThr_mayEmit {v : Word} {s t : State} (h : exec (.wThr v) s = .next t) :
    (transmit v s).MayEmit t .tagged := by
  rw [exec_wThr (exec_next_running h)] at h; cases h
  exact optionalDiag_mayEmit (transmit v s) .tagged .nothing

/-- Around the device, an operation other than a THR write appends at most one diagnostic (R309, log entry 11) and
changes neither the parameters nor the requests still to come. -/
theorem exec_mayEmit {i : Instr} {s t : State} (hi : ∀ v, i ≠ .wThr v) (h : exec i s = .next t) :
    ∃ d, s.MayEmit t d := by
  have hr := exec_next_running h
  cases i
  case wThr v => exact absurd rfl (hi v)
  case rCr | rMr | rIer | rIdr | rImr | rCsr | rThr | rCmpr =>
    simp only [exec_rCr hr, exec_rMr hr, exec_rIer hr, exec_rIdr hr, exec_rImr hr, exec_rCsr hr,
      exec_rThr hr, exec_rCmpr hr] at h
    cases h
    exact exists_mayEmit_of_silent rfl rfl rfl
  case wCr | wIer | wIdr | wImr | wCsr | evTxdrained =>
    simp only [exec_wCr hr, exec_wIer hr, exec_wIdr hr, exec_wImr hr, exec_wCsr hr,
      exec_evTxdrained hr] at h
    cases h
    exact exists_mayEmit_of_silent rfl rfl rfl
  case rUnmapped | wUnmapped =>
    simp only [exec_rUnmapped hr, exec_wUnmapped hr] at h
    cases h
    exact ⟨.unmapped, optionalDiag_mayEmit s .unmapped _⟩
  case wRhr v =>
    rw [exec_wRhr hr] at h; cases h
    exact ⟨.tagged, optionalDiag_mayEmit s .tagged .nothing⟩
  case wCmpr v =>
    rw [exec_wCmpr hr] at h; cases h
    exact ⟨.tagged, optionalDiag_mayEmit (s.setDev (compareWrite v s.dev)) .tagged .nothing⟩
  case wMr v =>
    rw [exec_wMr hr] at h; cases h
    exact modeDiag_mayEmit v s _ .nothing
  case rRhr =>
    rw [exec_rRhr hr] at h; cases h
    rcases receiveRead_cases s with ⟨-, e⟩ | ⟨-, -, e⟩ | ⟨-, b, rest, -, e⟩ <;> rw [e]
    · exact exists_mayEmit_of_silent rfl rfl rfl
    · exact ⟨.emptyRhr, rfl, rfl, .inr rfl⟩
    · exact exists_mayEmit_of_silent rfl rfl rfl
  case evRxchar b =>
    rw [exec_evRxchar hr] at h; cases h
    rcases receiveChar_cases b s with ⟨-, -, e⟩ | ⟨-, e⟩ <;> rw [e]
    · exact ⟨.rxDropped, optionalDiag_mayEmit s .rxDropped .nothing⟩
    · exact exists_mayEmit_of_silent rfl rfl rfl
  case evQueryline =>
    rw [exec_evQueryline hr] at h; cases h
    rcases queryLine_cases s with ⟨par, -, e⟩ | ⟨-, e⟩ <;> rw [e] <;>
      exact exists_mayEmit_of_silent rfl rfl rfl
  case evLineerror m =>
    rw [exec_evLineerror hr] at h
    split at h <;> cases h
    exact exists_mayEmit_of_silent rfl rfl rfl
  case evReserved code => rw [exec_evReserved hr] at h; cases h
  case kReserved low => rw [exec_kReserved hr] at h; cases h

/-- What `MayEmit` says of the outputs: some are appended, none of them a TxByte, and at most one a diagnostic. -/
theorem mayEmit_outputs {s t : State} {d : Diag} (h : s.MayEmit t d) :
    ∃ new, t.outputs = s.outputs ++ new ∧ (∀ b, .txByte b ∉ new)
      ∧ (new.filter Output.isDiag).length ≤ 1 := by
  obtain ⟨-, -, h | h⟩ := h
  · exact ⟨[], by simp [h]⟩
  · exact ⟨[.diag d], h, by simp, Nat.le_refl 1⟩

theorem transmit_params (v : Word) (s : State) : (transmit v s).params = s.params := by
  unfold transmit; split <;> rfl

theorem transmit_pending (v : Word) (s : State) : (transmit v s).pending = s.pending := by
  unfold transmit; split <;> rfl

/-- TXCHR is the low byte of the written word (R85, R201). -/
theorem THR.txchr_eq_setWidth (v : Word) : THR.txchr v = v.setWidth 8 :=
  (BitVec.setWidth_eq_extractLsb' (by decide)).symm

theorem exec_params_pending {i : Instr} {s t : State} (h : exec i s = .next t) :
    t.params = s.params ∧ t.pending = s.pending := by
  by_cases hi : ∃ v, i = .wThr v
  · obtain ⟨v, rfl⟩ := hi
    obtain ⟨hparams, hpending, -⟩ := exec_wThr_mayEmit h
    exact ⟨hparams.trans (transmit_params v s), hpending.trans (transmit_pending v s)⟩
  · obtain ⟨d, hparams, hpending, -⟩ := exec_mayEmit (not_exists.mp hi) h
    exact ⟨hparams, hpending⟩

/-- Settles O35: the byte of an enabled THR write comes first, then what `mayEmit_outputs` allows. -/
theorem outputsComeInIssueOrder : Obligations.OutputsComeInIssueOrder := by
  intro i s t h
  by_cases hi : ∃ v, i = .wThr v
  · obtain ⟨v, rfl⟩ := hi
    obtain ⟨new, hout, htx, hdiag⟩ := mayEmit_outputs (exec_wThr_mayEmit h)
    rcases transmit_cases v s with ⟨-, e⟩ | ⟨hen, e⟩ <;> rw [e] at hout
    · exact ⟨new, hout, fun b hb => absurd hb (htx b), hdiag⟩
    · refine ⟨.txByte (THR.txchr v) :: new, by simp [hout], fun b hb => ?_, hdiag⟩
      rcases List.mem_cons.mp hb with hb | hb
      · cases hb
        exact ⟨v, rfl, THR.txchr_eq_setWidth v, hen⟩
      · exact absurd hb (htx b)
  · obtain ⟨d, hd⟩ := exec_mayEmit (not_exists.mp hi) h
    obtain ⟨new, hout, htx, hdiag⟩ := mayEmit_outputs hd
    exact ⟨new, hout, fun b hb => absurd hb (htx b), hdiag⟩

/-- Settles O58: a step is idle, or an operation on the state without its request. -/
theorem noStepWritesParameters : Obligations.NoStepWritesParameters := by
  refine ⟨fun s t h => ?_, fun _ _ _ => exec_params_pending⟩
  obtain ⟨-, ⟨hnone, rfl⟩ | ⟨r, rest, i, hpend, -, hexec⟩⟩ := step_next h
  · exact ⟨rfl, by simp [hnone]⟩
  · obtain ⟨hparams, hpending⟩ := exec_params_pending hexec
    exact ⟨hparams, by rw [hpending, hpend, List.tail_cons]⟩

end Sys2Proof.Machine
end

section
/-! The family of 10_state.md: what an operation can do to each field of the device (by cases on `DevStep`), that every
step keeps the invariants of R37 and R38, the order of the FIFO, and which operand bits and which stored fields an
operation does not depend on. -/

namespace Sys2Proof.Machine

/-! ### Construction (R53) -/

/-- Settles O1: `State.reset` is this record. -/
theorem resetIsConstructionState : Obligations.ResetIsConstructionState :=
  ⟨rfl, rfl, rfl, rfl, rfl⟩

/-- Settles O2: the FIFO is empty, and both sides of R38 are false. -/
theorem resetMeetsInvariants : Obligations.ResetMeetsInvariants :=
  ⟨fun hne => absurd rfl hne, rfl⟩

/-! ### The invariants of R37 and R38 -/

/-- A Control write empties the FIFO wherever it clears RXRDY (R120). -/
theorem controlWrite_readyInv {d : Device} (p : Params) (v : Word) (h : d.ReadyInv) :
    (controlWrite p v d).ReadyInv := by
  rw [Device.ReadyInv, controlWrite_eq]
  cases CR.rstrx v with
  | true => exact fun hne => absurd rfl hne
  | false => exact fun hne => by simpa using h hne

/-- Every operation that completes keeps both invariants: it recomputes the IRQ level, or changes none of the five
booleans of R226. -/
theorem DevStep.inv {p : Params} {d d' : Device} {i : Instr} (h : DevStep p d i d') (hinv : d.Inv) :
    d'.Inv := by
  obtain ⟨hready, hirq⟩ := hinv
  cases h with
  | rhrPop b rest _ hf => exact ⟨popped_readyInv hready hf, recomputeIrq_irqInv _⟩
  | control v => exact ⟨controlWrite_readyInv p v hready, recomputeIrq_irqInv _⟩
  | rxPush b _ => exact ⟨push_readyInv d b, recomputeIrq_irqInv _⟩
  | rhrDisabled | rhrEmpty | ier | idr | thr | drained => exact ⟨hready, recomputeIrq_irqInv _⟩
  | read | mode | compare | imr | csr | rhr | unmapped | thrDisabled | rxDropped | query | queryInvalid
    | lineError => exact ⟨hready, hirq⟩

/-- Settles O3: a step is idle, or an operation that completes on the same device. -/
theorem stepKeepsReadyAndIrqInvariants : Obligations.StepKeepsReadyAndIrqInvariants := by
  intro s t hinv h
  obtain ⟨-, ⟨-, rfl⟩ | ⟨r, rest, i, -, -, hexec⟩⟩ := step_next h
  · exact hinv
  · exact (exec_devStep hexec).inv hinv

/-! ### What writes each field -/

section Fields

variable {p : Params} {d d' : Device} {i : Instr}

theorem DevStep.enables_unchanged (h : DevStep p d i d') (hi : ∀ v, i ≠ .wCr v) :
    d'.receiverEnabled = d.receiverEnabled ∧ d'.transmitterEnabled = d.transmitterEnabled := by
  cases h with
  | control v => exact absurd rfl (hi v)
  | _ => exact ⟨rfl, rfl⟩

theorem DevStep.mask_unchanged (h : DevStep p d i d') (hi : ∀ v, i ≠ .wIer v ∧ i ≠ .wIdr v) :
    d'.receiverReadyIrqEnabled = d.receiverReadyIrqEnabled
      ∧ d'.transmitterReadyIrqEnabled = d.transmitterReadyIrqEnabled := by
  cases h with
  | ier v => exact absurd rfl (hi v).1
  | idr v => exact absurd rfl (hi v).2
  | control v => simp [controlWrite_eq]
  | _ => exact ⟨rfl, rfl⟩

theorem DevStep.mode_unchanged (h : DevStep p d i d') (hi : ∀ v, i ≠ .wMr v) :
    d'.parRaw = d.parRaw ∧ d'.modeSel = d.modeSel := by
  cases h with
  | mode v => exact absurd rfl (hi v)
  | control v => simp [controlWrite_eq]
  | _ => exact ⟨rfl, rfl⟩

theorem DevStep.compareConfig_unchanged (h : DevStep p d i d') (hi : ∀ v, i ≠ .wCmpr v) :
    d'.compareModeEnable = d.compareModeEnable ∧ d'.compareVal1 = d.compareVal1
      ∧ d'.compareVal2 = d.compareVal2 := by
  cases h with
  | compare v => exact absurd rfl (hi v)
  | control v => simp [controlWrite_eq]
  | _ => exact ⟨rfl, rfl, rfl⟩

/-- Everything that can become of the FIFO (R33). -/
theorem DevStep.fifo_cases (h : DevStep p d i d') :
    d'.fifo = d.fifo
      ∨ (∃ b, i = .evRxchar b ∧ d'.fifo = d.fifo ++ [b])
      ∨ (i = .rRhr ∧ d.receiverEnabled = true ∧ ∃ b, d.fifo = b :: d'.fifo)
      ∨ (∃ v, i = .wCr v ∧ CR.rstrx v = true ∧ d'.fifo = []) := by
  cases h with
  | rxPush b _ => exact .inr (.inl ⟨b, rfl, rfl⟩)
  | rhrPop b rest hen hf => exact .inr (.inr (.inl ⟨rfl, hen, b, hf⟩))
  | control v =>
    rw [controlWrite_eq]
    cases hr : CR.rstrx v with
    | true => exact .inr (.inr (.inr ⟨v, rfl, hr, rfl⟩))
    | false => exact .inl rfl
  | _ => exact .inl rfl

/-- Everything that can become of RXRDY (R25, R163). -/
theorem DevStep.receiverReady_cases (h : DevStep p d i d') :
    d'.receiverReady = d.receiverReady
      ∨ (d'.receiverReady = true ∧ ∃ b, i = .evRxchar b)
      ∨ (d'.receiverReady = false ∧ ((i = .rRhr ∧ d'.fifo = [])
          ∨ ∃ v, i = .wCr v ∧ CR.rstrx v = true ∧ p.rstrxClearsRxrdy = true)) := by
  cases h with
  | rxPush b _ => exact .inr (.inl ⟨rfl, b, rfl⟩)
  | rhrPop b rest _ _ =>
    cases rest with
    | nil => exact .inr (.inr ⟨rfl, .inl ⟨rfl, rfl⟩⟩)
    | cons c cs => exact .inl rfl
  | control v =>
    rw [controlWrite_eq]
    cases hr : CR.rstrx v && p.rstrxClearsRxrdy with
    | true => exact .inr (.inr ⟨by simp, .inr ⟨v, rfl, by simpa using hr⟩⟩)
    | false => exact .inl (by simp)
  | _ => exact .inl rfl

/-- The four latched flags stay up unless RSTSTA is written (R123). -/
theorem DevStep.flags_stay (h : DevStep p d i d') (hi : ∀ v, i = .wCr v → CR.rststa v = false) :
    (d.parityError = true → d'.parityError = true) ∧ (d.frameError = true → d'.frameError = true)
      ∧ (d.overrunError = true → d'.overrunError = true)
      ∧ (d.compareSucceeded = true → d'.compareSucceeded = true) := by
  cases h with
  | control v =>
    rw [controlWrite_eq, hi v rfl]
    simp
  | rhrPop b rest _ _ => simp +contextual
  | lineError m _ => simp +contextual [Machine.lineError]
  | _ => exact ⟨id, id, id, id⟩

/-- Only a line error raises an error flag (R28, D16). -/
theorem DevStep.errorFlags_rise (h : DevStep p d i d') (hi : ∀ m, i ≠ .evLineerror m) :
    (d'.parityError = true → d.parityError = true) ∧ (d'.frameError = true → d.frameError = true)
      ∧ (d'.overrunError = true → d.overrunError = true) := by
  cases h with
  | lineError m _ => exact absurd rfl (hi m)
  | control v => simp +contextual [controlWrite_eq]
  | _ => exact ⟨id, id, id⟩

/-- Only the pop of a matching byte raises CMP (R29, R183). -/
theorem DevStep.compare_rises (h : DevStep p d i d') (hlow : d.compareSucceeded = false)
    (hup : d'.compareSucceeded = true) :
    i = .rRhr ∧ d.receiverEnabled = true
      ∧ ∃ b rest, d.fifo = b :: rest ∧ compareMatches d b = true := by
  cases h with
  | rhrPop b rest hen hf => exact ⟨rfl, hen, b, rest, hf, by simpa [hlow] using hup⟩
  | control v => simp [controlWrite_eq, hlow] at hup
  | _ => exact absurd (hlow.symm.trans hup) Bool.false_ne_true

end Fields

/-- Settles O33: `DevStep.fifo_cases` of the operation's device step. -/
theorem fifoChangesOnlyByReceiveReadAndReset : Obligations.FifoChangesOnlyByReceiveReadAndReset :=
  fun _ _ _ h => (exec_devStep h).fifo_cases

/-- Settles O54: one frame lemma for each group of fields. -/
theorem eachFieldHasItsOneWriter : Obligations.EachFieldHasItsOneWriter := by
  intro i s t h
  have hstep := exec_devStep h
  exact ⟨hstep.enables_unchanged, hstep.mask_unchanged, hstep.mode_unchanged, hstep.compareConfig_unchanged⟩

/-- Settles O55: of the ways in `DevStep.receiverReady_cases`, one raises RXRDY and two clear it. -/
theorem receiverReadyRisesAndFallsOnlySo : Obligations.ReceiverReadyRisesAndFallsOnlySo := by
  intro i s t h
  rcases (exec_devStep h).receiverReady_cases with hsame | ⟨hup, hrx⟩ | ⟨hdown, hcause⟩
  · exact ⟨fun h0 h1 => by simp [hsame, h0] at h1, fun h1 h0 => by simp [hsame, h1] at h0⟩
  · exact ⟨fun _ _ => hrx, fun _ h0 => by simp [hup] at h0⟩
  · exact ⟨fun _ h1 => by simp [hdown] at h1, fun _ _ => hcause⟩

/-- Settles O56 by `DevStep.flags_stay`, `DevStep.errorFlags_rise` and `DevStep.compare_rises`. -/
theorem latchedFlagsFallOnlyByStatusReset : Obligations.LatchedFlagsFallOnlyByStatusReset := by
  intro i s t h
  have hstep := exec_devStep h
  refine ⟨hstep.flags_stay, hstep.errorFlags_rise, fun hlow hup => ?_⟩
  obtain ⟨hi, hen, b, rest, hf, hmatch⟩ := hstep.compare_rises hlow hup
  obtain ⟨hmode, hlo, hhi⟩ := (compareMatches_iff s.dev b).mp hmatch
  exact ⟨hi, hen, hmode, b, rest, hf, hlo, hhi⟩

/-! ### The order of the FIFO (R36) -/

theorem receiveRead_of_disabled (s : State) (hoff : s.dev.receiverEnabled = false) :
    receiveRead s = receiveDisabled s := by
  rw [receiveRead, if_neg (by simp [hoff])]

theorem receiveRead_of_empty (s : State) (hen : s.dev.receiverEnabled = true) (hf : s.dev.fifo = []) :
    receiveRead s = receiveEmpty s := by
  rw [receiveRead, if_pos hen, hf]

theorem receiveRead_of_head (s : State) (hen : s.dev.receiverEnabled = true) {b : Byte} {rest : List Byte}
    (hf : s.dev.fifo = b :: rest) : receiveRead s = receivePop b rest s := by
  rw [receiveRead, if_pos hen, hf]

/-- A receive event of an enabled receiver enqueues its byte (R260). -/
theorem exec_evRxchar_of_enabled {s : State} (hr : s.Running) (hen : s.dev.receiverEnabled = true) (b : Byte) :
    exec (.evRxchar b) s = .next ((s.setDev (s.dev.push b).recomputeIrq).answer .nothing) := by
  rw [exec_evRxchar hr]
  rcases receiveChar_cases b s with ⟨hoff, -, -⟩ | ⟨-, e⟩
  · simp [hen] at hoff
  · rw [e]

/-- An RHR read of an enabled receiver pops the head (R182). -/
theorem exec_rRhr_of_head {s : State} (hr : s.Running) (hen : s.dev.receiverEnabled = true) {b : Byte}
    {rest : List Byte} (hf : s.dev.fifo = b :: rest) : exec .rRhr s = .next (receivePop b rest s) := by
  rw [exec_rRhr hr, receiveRead_of_head s hen hf]

/-- The bytes of a run of receive events stand at the tail, in the order of the events. -/
theorem execAll_receive (bs : List Byte) (s : State) (hr : s.Running) (hen : s.dev.receiverEnabled = true) :
    ∃ t, execAll (bs.map .evRxchar) s = .next t ∧ t.Running ∧ t.dev.receiverEnabled = true
      ∧ t.dev.fifo = s.dev.fifo ++ bs := by
  induction bs generalizing s with
  | nil => exact ⟨s, rfl, hr, hen, (List.append_nil _).symm⟩
  | cons b bs ih =>
    rw [List.map_cons, execAll_cons_of_next (exec_evRxchar_of_enabled hr hen b)]
    obtain ⟨t, hall, hrt, hent, hft⟩ := ih ((s.setDev (s.dev.push b).recomputeIrq).answer .nothing) hr hen
    exact ⟨t, hall, hrt, hent, by simpa using hft⟩

/-- As many RHR reads as `xs` is long take `xs` from the head. -/
theorem execAll_reads (xs : List Byte) (s : State) {rest : List Byte} (hr : s.Running)
    (hen : s.dev.receiverEnabled = true) (hf : s.dev.fifo = xs ++ rest) :
    ∃ t, execAll (List.replicate xs.length .rRhr) s = .next t ∧ t.Running ∧ t.dev.receiverEnabled = true
      ∧ t.dev.fifo = rest := by
  induction xs generalizing s with
  | nil => exact ⟨s, rfl, hr, hen, hf⟩
  | cons x xs ih =>
    rw [List.length_cons, List.replicate_succ, execAll_cons_of_next (exec_rRhr_of_head hr hen hf)]
    exact ih (receivePop x (xs ++ rest) s) hr hen rfl

/-- Settles O32: receive events append `bs`, the reads take `xs`, and the last read finds `b` at the head. -/
theorem fifoKeepsArrivalOrder : Obligations.FifoKeepsArrivalOrder := by
  intro s bs xs ys b hr hen hf
  obtain ⟨t, hevents, hrt, hent, hft⟩ := execAll_receive bs s hr hen
  obtain ⟨u, hreads, hru, henu, hfu⟩ := execAll_reads xs t hrt hent (hft.trans hf)
  exact ⟨t, u, _, hevents, hreads, exec_rRhr_of_head hru henu hfu, rfl, rfl⟩

/-! ### Bits of a written word that no operation reads (R40, R85, R106, R125) -/

theorem exec_of_faulted {s : State} {c : FaultCode} (h : s.dev.faulted = some c) (i : Instr) :
    exec i s = .fault (.stuck c) := by
  obtain ⟨k, hk⟩ := exec_guarded i
  rw [hk, whenRunning_of_faulted h]

/-- Two operations agree on every state if they agree where the device is running. -/
theorem exec_eq_of_running {i j : Instr} {s : State} (h : s.Running → exec i s = exec j s) :
    exec i s = exec j s := by
  cases hf : s.dev.faulted with
  | none => exact h hf
  | some c => rw [exec_of_faulted hf, exec_of_faulted hf]

/-- A mask keeps the bit it holds. -/
theorem bit_and_mask (v : Word) {m : Word} {n : Nat} (h : bit m n = true) : bit (v &&& m) n = bit v n := by
  rw [bit, BitVec.getLsbD_and, ← bit, ← bit, h, Bool.and_true]

/-- A mask keeps the field it holds. -/
theorem extractLsb'_and_mask (v : Word) {m : Word} {start len : Nat}
    (h : m.extractLsb' start len = BitVec.allOnes len) :
    (v &&& m).extractLsb' start len = v.extractLsb' start len := by
  rw [BitVec.extractLsb'_and, h, BitVec.and_allOnes]

theorem controlWrite_and_mask (p : Params) (v : Word) (d : Device) :
    controlWrite p (v &&& 0x000001FC#32) d = controlWrite p v d := by
  simp (disch := decide) only [controlWrite_eq, CR.rstrx, CR.rsttx, CR.rxen, CR.rxdis, CR.txen, CR.txdis, CR.rststa,
    bit_and_mask]

theorem maskWrite_and_mask (b : Bool) (v : Word) (d : Device) :
    maskWrite b (v &&& 0x00000003#32) d = maskWrite b v d := by
  simp (disch := decide) only [maskWrite, IMR.rxrdy, IMR.txrdy, bit_and_mask]

theorem compareWrite_and_mask (v : Word) (d : Device) :
    compareWrite (v &&& 0x00FF10FF#32) d = compareWrite v d := by
  simp (disch := decide) only [compareWrite, CMPR.val1, CMPR.cmpmode, CMPR.val2, bit_and_mask, extractLsb'_and_mask]

theorem transmit_and_mask (v : Word) (s : State) : transmit (v &&& 0x000000FF#32) s = transmit v s := by
  rw [transmit, THR.txchr, extractLsb'_and_mask v (by decide), transmit]

theorem MR.mode_and_mask (v : Word) : MR.mode (v &&& 0x00000E0F#32) = MR.mode v :=
  extractLsb'_and_mask v (by decide)

theorem MR.par_and_mask (v : Word) : MR.par (v &&& 0x00000E0F#32) = MR.par v :=
  extractLsb'_and_mask v (by decide)

theorem modeDiag_and_mask (v : Word) (s : State) : modeDiag (v &&& 0x00000E0F#32) s = modeDiag v s := by
  rw [modeDiag, MR.mode_and_mask, modeDiag]

/-- Settles O16: what each write does to the state depends on the masked word only. -/
theorem undeclaredAndTaggedBitsHaveNoEffect : Obligations.UndeclaredAndTaggedBitsHaveNoEffect := by
  intro s v
  refine ⟨exec_eq_of_running fun hr => ?_, exec_eq_of_running fun hr => ?_, exec_eq_of_running fun hr => ?_,
    exec_eq_of_running fun hr => ?_, exec_eq_of_running fun hr => ?_, exec_eq_of_running fun hr => ?_⟩
  · rw [exec_wCr hr, exec_wCr hr, controlWrite_and_mask]
  · rw [exec_wMr hr, exec_wMr hr, modeDiag_and_mask, MR.mode_and_mask, MR.par_and_mask]
  · rw [exec_wIer hr, exec_wIer hr, maskWrite_and_mask]
  · rw [exec_wIdr hr, exec_wIdr hr, maskWrite_and_mask]
  · rw [exec_wThr hr, exec_wThr hr, transmit_and_mask]
  · rw [exec_wCmpr hr, exec_wCmpr hr, compareWrite_and_mask]

/-! ### The stored MODE (R31, R143) -/

theorem State.withMode_dev (s : State) (m : BitVec 4) : (s.withMode m).dev = { s.dev with modeSel := m } := rfl

theorem State.withMode_params (s : State) (m : BitVec 4) : (s.withMode m).params = s.params := rfl

theorem controlWrite_withMode (p : Params) (v : Word) (d : Device) (m : BitVec 4) :
    controlWrite p v { d with modeSel := m } = { controlWrite p v d with modeSel := m } := by
  rw [controlWrite_eq, controlWrite_eq]; rfl

theorem receiveRead_withMode (s : State) (m : BitVec 4) :
    receiveRead (s.withMode m) = (receiveRead s).withMode m := by
  rcases receiveRead_cases s with ⟨hoff, e⟩ | ⟨hen, hf, e⟩ | ⟨hen, b, rest, hf, e⟩ <;> rw [e]
  · exact receiveRead_of_disabled (s.withMode m) hoff
  · exact receiveRead_of_empty (s.withMode m) hen hf
  · exact receiveRead_of_head (s.withMode m) hen hf

theorem transmit_withMode (v : Word) (s : State) (m : BitVec 4) :
    transmit v (s.withMode m) = (transmit v s).withMode m := by
  have hen : (s.withMode m).dev.transmitterEnabled = s.dev.transmitterEnabled := rfl
  rw [transmit, transmit, hen]
  split <;> rfl

theorem receiveChar_withMode (b : Byte) (s : State) (m : BitVec 4) :
    receiveChar b (s.withMode m) = (receiveChar b s).withMode m := by
  have hdrop : dropsCharacter (s.withMode m) = dropsCharacter s := rfl
  rw [receiveChar, receiveChar, hdrop]
  split <;> rfl

theorem queryLine_withMode (s : State) (m : BitVec 4) :
    queryLine (s.withMode m) = (queryLine s).withMode m := by
  simp only [queryLine, State.withMode_dev, State.withMode_params]
  split <;> rfl

/-- An operation of a running device carries another stored MODE along, unless it reads or writes MR. -/
theorem exec_withMode_of_running {i : Instr} {s : State} (hr : s.Running) (m : BitVec 4) (hread : i ≠ .rMr)
    (hwrite : ∀ v, i ≠ .wMr v) :
    exec i (s.withMode m) = mapNext (fun t => t.withMode m) (exec i s) := by
  have hr' : (s.withMode m).Running := hr
  cases i
  case rMr => exact absurd rfl hread
  case wMr v => exact absurd rfl (hwrite v)
  case wCr v =>
    rw [exec_wCr hr', exec_wCr hr, State.withMode_dev, State.withMode_params, controlWrite_withMode]; rfl
  case rRhr => rw [exec_rRhr hr', exec_rRhr hr, receiveRead_withMode]; rfl
  case wThr v => rw [exec_wThr hr', exec_wThr hr, transmit_withMode]; rfl
  case evRxchar b => rw [exec_evRxchar hr', exec_evRxchar hr, receiveChar_withMode]; rfl
  case evQueryline => rw [exec_evQueryline hr', exec_evQueryline hr, queryLine_withMode]; rfl
  case evLineerror e =>
    rw [exec_evLineerror hr', exec_evLineerror hr, State.withMode_params]
    split <;> rfl
  case rCr | rIer | rIdr | rImr | rCsr | rThr | rCmpr | rUnmapped =>
    simp (disch := assumption) only [exec_rCr, exec_rIer, exec_rIdr, exec_rImr, exec_rCsr, exec_rThr, exec_rCmpr,
      exec_rUnmapped]
    rfl
  case wIer | wIdr | wImr | wCsr | wRhr | wCmpr | wUnmapped =>
    simp (disch := assumption) only [exec_wIer, exec_wIdr, exec_wImr, exec_wCsr, exec_wRhr, exec_wCmpr, exec_wUnmapped]
    rfl
  case evTxdrained | evReserved | kReserved =>
    simp (disch := assumption) only [exec_evTxdrained, exec_evReserved, exec_kReserved]
    rfl

/-- A Mode write stores MODE without a look at the stored one (R141). -/
theorem exec_wMr_withMode {s : State} (hr : s.Running) (v : Word) (m : BitVec 4) :
    exec (.wMr v) (s.withMode m) = exec (.wMr v) s := by
  have hr' : (s.withMode m).Running := hr
  rw [exec_wMr hr', exec_wMr hr]; rfl

/-- Settles O25: a running device by `exec_withMode_of_running`; a faulted one stops with its code. -/
theorem storedModeChangesNoBehaviour : Obligations.StoredModeChangesNoBehaviour := by
  refine ⟨fun i s m hread hwrite => ?_, fun s v m hr => exec_wMr_withMode hr v m, fun s t h => ?_⟩
  · cases hf : s.dev.faulted with
    | none => exact exec_withMode_of_running hf m hread hwrite
    | some c =>
      have hf' : (s.withMode m).dev.faulted = some c := hf
      rw [exec_of_faulted hf', exec_of_faulted hf]; rfl
  · rw [exec_rMr (exec_next_running h)] at h
    cases h; rfl

end Sys2Proof.Machine
end

section
/-! The family of 20_memory.md: what one step does with the next request (R62, R63, R67, R68), which reads change the
device (R72), and that the same register write again changes nothing more (R73). -/

namespace Sys2Proof.Machine

/-! ### One step -/

theorem step_of_running {s : State} (hr : s.Running) : step s = fetch s exec :=
  whenRunning_of_running hr _

/-- Settles O10: the fetch of a presented operation, and of none. -/
theorem stepRunsTheDecodedOperation : Obligations.StepRunsTheDecodedOperation := by
  refine ⟨fun s r rest i hr hpend hdec => ?_, fun s hr hnone => ?_⟩
  · rw [step_of_running hr, fetch_of_instr hpend hdec]
  · rw [step_of_running hr, fetch_of_none hnone]

theorem step_of_reject {s : State} {r : Request} {rest : List Request} {e : Rejection} (hr : s.Running)
    (hpend : s.pending = r :: rest) (hdec : decode r = .reject e) : step s = .refused (rejection e) := by
  rw [step_of_running hr, fetch_of_reject hpend hdec]

/-- Settles O11: `step_of_reject` for each of the two rejections. -/
theorem stepRefusesRejectedRequests : Obligations.StepRefusesRejectedRequests :=
  fun _ _ _ hr hpend => ⟨step_of_reject hr hpend, step_of_reject hr hpend⟩

/-! ### Which reads change the device (R72) -/

section Reads

variable {p : Params} {d d' : Device} {i : Instr}

theorem DevStep.read_unchanged (h : DevStep p d i d') (hk : i.kind = .busRead) (hi : i ≠ .rRhr) : d' = d := by
  cases h with
  | read => rfl
  | rhrDisabled | rhrEmpty | rhrPop => exact absurd rfl hi
  | _ => cases hk

/-- Everything an RHR read can do to the device: recompute the IRQ level, or pop the head before that (R181 to R185). -/
theorem DevStep.rhrRead_cases (h : DevStep p d .rRhr d') :
    ((d.receiverEnabled = false ∨ d.fifo = []) ∧ d' = d.recomputeIrq)
      ∨ (d.receiverEnabled = true ∧ ∃ b rest, d.fifo = b :: rest ∧ d' = (d.popped b rest).recomputeIrq) := by
  cases h with
  | read _ _ hi => exact absurd rfl hi
  | rhrDisabled hoff => exact .inl ⟨.inl hoff, rfl⟩
  | rhrEmpty _ hf => exact .inl ⟨.inr hf, rfl⟩
  | rhrPop b rest hen hf => exact .inr ⟨hen, b, rest, hf, rfl⟩

theorem DevStep.rhrRead_unchanged (h : DevStep p d .rRhr d') (hnopop : d.receiverEnabled = false ∨ d.fifo = [])
    (hirq : d.IrqInv) : d' = d := by
  rcases h.rhrRead_cases with ⟨-, e⟩ | ⟨hen, b, rest, hf, -⟩
  · rw [e, recomputeIrq_of_irqInv hirq]
  · simp [hen, hf] at hnopop

/-- A pop only clears RXRDY and only sets CMP (R182, R183). -/
theorem popped_latches (d : Device) (b : Byte) (rest : List Byte) :
    ((d.popped b rest).receiverReady = true → d.receiverReady = true)
      ∧ (d.compareSucceeded = true → (d.popped b rest).compareSucceeded = true) := by
  rw [Device.popped_receiverReady, Device.popped_compareSucceeded]
  constructor
  · cases rest with
    | nil => exact fun h => absurd h Bool.false_ne_true
    | cons c cs => exact id
  · intro h
    rw [h, ite_self]

theorem DevStep.rhrRead_pops (h : DevStep p d .rRhr d') (hen : d.receiverEnabled = true) (hne : d.fifo ≠ []) :
    ∃ b rest, d.fifo = b :: rest ∧ d' = (d.popped b rest).recomputeIrq := by
  rcases h.rhrRead_cases with ⟨hoff | hnil, -⟩ | ⟨-, hpop⟩
  · exact absurd (hoff.symm.trans hen) Bool.false_ne_true
  · exact absurd hnil hne
  · exact hpop

end Reads

/-- Settles O52: one lemma on the device step for each of the three kinds of read. -/
theorem onlyReceiveReadsHaveSideEffects : Obligations.OnlyReceiveReadsHaveSideEffects := by
  intro i s t hk h
  have hstep := exec_devStep h
  refine ⟨hstep.read_unchanged hk, ?_, ?_⟩
  · rintro rfl
    exact hstep.rhrRead_unchanged
  · rintro rfl hen hne
    obtain ⟨b, rest, hf, e⟩ := hstep.rhrRead_pops hen hne
    rw [e, hf]
    exact ⟨rfl, popped_latches s.dev b rest⟩

/-! ### The same register write again (R73) -/

theorem ite_else_ite_same {α : Type} (c : Bool) (x y : α) :
    (if c then x else if c then x else y) = if c then x else y := by
  cases c <;> rfl

theorem setOrKeep_idem (set keep x : Bool) :
    (set || ((set || (x && keep)) && keep)) = (set || (x && keep)) := by
  cases set <;> simp

theorem allowSetOrKeep_idem (allow set keep x : Bool) :
    (allow && (set || (allow && ((set || (x && keep)) && keep)))) = (allow && (set || (x && keep))) := by
  cases allow <;> cases set <;> simp

/-- Each field a Control write stores has one of four forms, and each form settles at the first write: the FIFO is
emptied or left, a latch is kept under a bit, the receiver is set or kept (step 2 of R120), the transmitter is set or
kept where TXDIS allows it (step 3). -/
theorem controlWrite_idem (p : Params) (v : Word) (d : Device) :
    controlWrite p v (controlWrite p v d) = controlWrite p v d := by
  simp only [controlWrite_eq, Device.recomputeIrq, irqFn, ite_else_ite_same, Bool.and_assoc, Bool.and_self,
    setOrKeep_idem, allowSetOrKeep_idem]

/-- The stored IRQ level is no argument of a mask write or of the recomputation (R226). -/
theorem maskWrite_recomputeIrq_idem (b : Bool) (v : Word) (d : Device) :
    (maskWrite b v (maskWrite b v d).recomputeIrq).recomputeIrq = (maskWrite b v d).recomputeIrq := by
  simp only [maskWrite, Device.recomputeIrq, irqFn, ite_else_ite_same]

section Writes

variable {p : Params} {d d' : Device} {v : Word}

theorem DevStep.wCr_eq (h : DevStep p d (.wCr v) d') : d' = controlWrite p v d := by
  cases h with
  | read _ hk => cases hk
  | control => rfl

theorem DevStep.wMr_eq (h : DevStep p d (.wMr v) d') :
    d' = { d with modeSel := MR.mode v, parRaw := MR.par v } := by
  cases h with
  | read _ hk => cases hk
  | mode => rfl

theorem DevStep.wIer_eq (h : DevStep p d (.wIer v) d') : d' = (maskWrite true v d).recomputeIrq := by
  cases h with
  | read _ hk => cases hk
  | ier => rfl

theorem DevStep.wIdr_eq (h : DevStep p d (.wIdr v) d') : d' = (maskWrite false v d).recomputeIrq := by
  cases h with
  | read _ hk => cases hk
  | idr => rfl

theorem DevStep.wCmpr_eq (h : DevStep p d (.wCmpr v) d') : d' = compareWrite v d := by
  cases h with
  | read _ hk => cases hk
  | compare => rfl

end Writes

/-- Settles O53: each of the five writes is an idempotent function of the device. -/
theorem registerWritesAreIdempotent : Obligations.RegisterWritesAreIdempotent := by
  intro i s t u v hi ht hu
  have hfirst := exec_devStep ht
  have hagain := exec_devStep hu
  simp only [List.mem_cons, List.not_mem_nil, or_false] at hi
  rcases hi with rfl | rfl | rfl | rfl | rfl
  · rw [hagain.wCr_eq, hfirst.wCr_eq, (exec_params_pending ht).1, controlWrite_idem]
  · rw [hagain.wMr_eq, hfirst.wMr_eq]
  · rw [hagain.wIer_eq, hfirst.wIer_eq, maskWrite_recomputeIrq_idem]
  · rw [hagain.wIdr_eq, hfirst.wIdr_eq, maskWrite_recomputeIrq_idem]
  · rw [hagain.wCmpr_eq, hfirst.wCmpr_eq, compareWrite, compareWrite]

end Sys2Proof.Machine
end

section
/-! The family of 30_encoding.md: which selectors the specific rows of the operation map hold (R86), that the encoder
and the decoder are inverse to each other (R81, R82), and that the decoder takes the first matching row. -/

namespace Sys2Proof

open Sys2Proof.Machine

/-! ### The specific rows -/

/-- Whether a specific row of R86 has this kind and target: a register by its offset, an event by its code. -/
def isSpecificTarget : Kind → Target → Bool
  | .busRead, t => registerOffsets.contains t
  | .busWrite, t => registerOffsets.contains t
  | .event, t => eventCodes.contains t
  | .reserved, _ => false

/-- The specific rows are a read and a write of each register, and each event. -/
theorem specificRows_selectors :
    specificRows.map Prod.fst =
      registerOffsets.map (mkSelector .busRead) ++ registerOffsets.map (mkSelector .busWrite)
        ++ eventCodes.map (mkSelector .event) := by
  decide

theorem mkSelector_mem_specificRows (k : Kind) (t : Target) :
    mkSelector k t ∈ specificRows.map Prod.fst ↔ isSpecificTarget k t = true := by
  rw [specificRows_selectors]
  cases k <;> simp [mkSelector_inj, isSpecificTarget]

theorem specificRows_find?_eq_none (sel : Selector) :
    specificRows.find? (fun row => row.1 == sel) = none ↔
      isSpecificTarget (selectorKind sel) (selectorTarget sel) = false := by
  rw [← Bool.not_eq_true, ← mkSelector_mem_specificRows, mkSelector_fields]
  simp only [List.find?_eq_none, List.mem_map, not_exists, not_and, beq_iff_eq]

/-- The operation of a specific row is well formed and has the row's selector, whatever its operand. -/
theorem specificRows_wf_selector (x : Word) :
    ∀ row ∈ specificRows, (row.2 x).WellFormed ∧ (row.2 x).selector = row.1 := by
  intro row hrow
  fin_cases hrow <;> exact ⟨rfl, rfl⟩

theorem specificRows_mnemonic (x y : Word) :
    ∀ row ∈ specificRows, (row.2 x).mnemonic = (row.2 y).mnemonic := by
  intro row hrow
  fin_cases hrow <;> rfl

/-! ### The catch-all rows -/

theorem catchAllRow_wf (sel : Selector) (x : Word) :
    (catchAllRow sel x).wf = !isSpecificTarget (selectorKind sel) (selectorTarget sel) := by
  unfold catchAllRow
  cases selectorKind sel <;> rfl

theorem catchAllRow_selector (sel : Selector) (x : Word) : (catchAllRow sel x).selector = sel := by
  conv_rhs => rw [← mkSelector_fields sel]
  unfold catchAllRow
  cases selectorKind sel <;> rfl

/-! ### The decoder -/

theorem decodeSelector_of_find?_some {sel : Selector} {row : Selector × (Word → Instr)}
    (h : specificRows.find? (fun row => row.1 == sel) = some row) (x : Word) :
    decodeSelector sel x = row.2 x := by
  rw [decodeSelector, h]

theorem decodeSelector_of_find?_none {sel : Selector}
    (h : specificRows.find? (fun row => row.1 == sel) = none) (x : Word) :
    decodeSelector sel x = catchAllRow sel x := by
  rw [decodeSelector, h]

/-- A selector that no specific row holds spells the catch-all operation of its kind. -/
theorem decodeSelector_mkSelector {k : Kind} {t : Target} (h : isSpecificTarget k t = false) (x : Word) :
    decodeSelector (mkSelector k t) x =
      match k with
      | .busRead => .rUnmapped t
      | .busWrite => .wUnmapped t x
      | .event => .evReserved t
      | .reserved => .kReserved t := by
  have hkind := selectorKind_mkSelector k t
  have htarget := selectorTarget_mkSelector k t
  have hnone := (specificRows_find?_eq_none (mkSelector k t)).mpr (by rw [hkind, htarget, h])
  rw [decodeSelector_of_find?_none hnone, catchAllRow, hkind, htarget]
  cases k <;> rfl

theorem decode_operation_word (sel : Selector) (x : Word) :
    decode (.operation sel .word x) = .instr (decodeSelector sel x) := by
  rw [decode, sizeAdmitted_word, if_pos rfl]

/-- An operand of at most 32 bits is read back from the operand word (R82). -/
theorem extractLsb'_setWidth_same {n : Nat} (b : BitVec n) (h : n ≤ 32) :
    (b.setWidth 32).extractLsb' 0 n = b := by
  rw [← BitVec.setWidth_eq_extractLsb' h, BitVec.setWidth_setWidth_of_le b h, BitVec.setWidth_eq]

theorem decodeSelector_selector {i : Instr} (h : i.WellFormed) :
    decodeSelector i.selector i.operand = i := by
  cases i with
  | rUnmapped off => exact decodeSelector_mkSelector (k := .busRead) ((Bool.not_eq_true' _).mp h) _
  | wUnmapped off v => exact decodeSelector_mkSelector (k := .busWrite) ((Bool.not_eq_true' _).mp h) v
  | evReserved code => exact decodeSelector_mkSelector (k := .event) ((Bool.not_eq_true' _).mp h) _
  | kReserved low => exact decodeSelector_mkSelector (k := .reserved) rfl _
  | evRxchar b => exact congrArg Instr.evRxchar (extractLsb'_setWidth_same b (by decide))
  | evLineerror m => exact congrArg Instr.evLineerror (extractLsb'_setWidth_same m (by decide))
  | _ => rfl

/-- Settles O5: SZ is 32, so the map is consulted, and `decodeSelector_selector` reads the operation back. -/
theorem decodeOfEncodeIsTheOperation : Obligations.DecodeOfEncodeIsTheOperation := by
  intro i h
  rw [encode, decode_operation_word, decodeSelector_selector h]

/-- Settles O6: by the row found, else by the catch-all row of the kind. -/
theorem selectorOfDecodedOperation : Obligations.SelectorOfDecodedOperation := by
  intro sel x
  cases h : specificRows.find? (fun row => row.1 == sel) with
  | some row =>
    rw [decodeSelector_of_find?_some h]
    have hsel : row.1 = sel := by simpa using List.find?_some h
    exact hsel ▸ specificRows_wf_selector x row (List.mem_of_find?_eq_some h)
  | none =>
    rw [decodeSelector_of_find?_none h, Instr.WellFormed, catchAllRow_wf, (specificRows_find?_eq_none sel).mp h]
    exact ⟨rfl, catchAllRow_selector sel x⟩

/-! ### The first matching row (R86) -/

/-- The specific rows as match, mask and mnemonic: a specific row fixes every bit of the selector. -/
def specificMapRows : List (Selector × Selector × String) :=
  specificRows.map fun row => (row.1, 0xFFFF#16, (row.2 0#32).mnemonic)

/-- The catch-all rows as match, mask and mnemonic: a catch-all row fixes the kind alone. -/
def catchAllMapRows : List (Selector × Selector × String) :=
  [(0x0000#16, 0xC000#16, "R_UNMAPPED"), (0x4000#16, 0xC000#16, "W_UNMAPPED"),
    (0x8000#16, 0xC000#16, "EV_RESERVED"), (0xC000#16, 0xC000#16, "K_RESERVED")]

/-- The catch-all rows' mask keeps the kind and nothing else. -/
theorem and_kindMask (sel : Selector) : sel &&& 0xC000#16 = mkSelector (selectorKind sel) 0#14 := by
  have hmask : (0xC000#16 : Selector) = BitVec.allOnes 2 ++ 0#14 := by decide
  conv_lhs => rw [← mkSelector_fields sel]
  rw [hmask, mkSelector, BitVec.and_append, BitVec.and_allOnes, BitVec.and_zero, mkSelector]

theorem catchAllMapRows_find? (sel : Selector) (x : Word) :
    (catchAllMapRows.find? (fun r => sel &&& r.2.1 == r.1)).map (fun r => r.2.2)
      = some (catchAllRow sel x).mnemonic := by
  simp only [catchAllMapRows, List.find?_cons, and_kindMask, catchAllRow]
  cases selectorKind sel <;> rfl

theorem specificMapRows_find? (sel : Selector) :
    specificMapRows.find? (fun r => sel &&& r.2.1 == r.1)
      = (specificRows.find? (fun row => row.1 == sel)).map
          fun row => (row.1, 0xFFFF#16, (row.2 0#32).mnemonic) := by
  rw [specificMapRows, List.find?_map]
  congr 1
  refine List.find?_congr fun row _ => ?_
  change (sel &&& BitVec.allOnes 16 == row.1) = (row.1 == sel)
  rw [BitVec.and_allOnes, BEq.comm]

theorem mapRows_find? (sel : Selector) (x : Word) :
    ((specificMapRows ++ catchAllMapRows).find? (fun r => sel &&& r.2.1 == r.1)).map (fun r => r.2.2)
      = some (decodeSelector sel x).mnemonic := by
  rw [List.find?_append, specificMapRows_find?]
  cases h : specificRows.find? (fun row => row.1 == sel) with
  | some row =>
    rw [decodeSelector_of_find?_some h]
    exact congrArg some (specificRows_mnemonic 0#32 x row (List.mem_of_find?_eq_some h))
  | none =>
    rw [decodeSelector_of_find?_none h]
    exact catchAllMapRows_find? sel x

/-- Bit 15 tells the bus operations, on which SZ bears, from the others (R81, R82). -/
theorem sizeAdmitted_selectorKind (sel : Selector) {size : AccessSize} (h : size ≠ .word) :
    sizeAdmitted (selectorKind sel) size = sel.getLsbD 15 := by
  have hsize : (size == .word) = false := beq_false_of_ne h
  unfold selectorKind
  cases sel.getLsbD 15 <;> cases sel.getLsbD 14
  · exact hsize
  · exact hsize
  · rfl
  · rfl

/-- Settles O7: `mapRows_find?` for the first match, `sizeAdmitted_selectorKind` for the size check. -/
theorem decoderTakesFirstMatchingRow : Obligations.DecoderTakesFirstMatchingRow := by
  unfold Obligations.DecoderTakesFirstMatchingRow
  intro rows sel x
  have hrows : rows = specificMapRows ++ catchAllMapRows := rfl
  rw [hrows]
  refine ⟨mapRows_find? sel x, decode_operation_word sel x, fun size hsize => ?_⟩
  rw [decode, sizeAdmitted_selectorKind sel hsize]

/-- Settles O8: each selector is one closed instance of the decoder. -/
theorem specSelectorsDecode : Obligations.SpecSelectorsDecode := by
  unfold Obligations.SpecSelectorsDecode
  decide

end Sys2Proof
end

section
/-! The family of 40_register_file.md: the accesses that a register or an offset answers without touching the device
(R103 to R105). -/

namespace Sys2Proof.Machine

/-- Settles O13: each of the four reads answers 0 and nothing else. -/
theorem writeOnlyRegistersReadZero : Obligations.WriteOnlyRegistersReadZero := by
  intro s hr i hi
  simp only [List.mem_cons, List.not_mem_nil, or_false] at hi
  rcases hi with rfl | rfl | rfl | rfl
  · exact exec_rCr hr
  · exact exec_rIer hr
  · exact exec_rIdr hr
  · exact exec_rThr hr

/-- An operation that answers `r` after an optional diagnostic leaves the device as it is (R302, R305). -/
theorem exists_next_of_optionalDiag {i : Instr} {s : State} {d : Diag} {r : Response}
    (h : exec i s = .next ((s.optionalDiag d).answer r)) :
    ∃ t, exec i s = .next t ∧ t.dev = s.dev ∧ t.response = r ∧ s.MayEmit t d :=
  ⟨_, h, rfl, rfl, optionalDiag_mayEmit s d r⟩

/-- Settles O14: IMR and CSR ignore the write outright; RHR may name its tagged field. -/
theorem readOnlyRegistersIgnoreWrites : Obligations.ReadOnlyRegistersIgnoreWrites :=
  fun _ v hr => ⟨exec_wImr hr v, exec_wCsr hr v, exists_next_of_optionalDiag (exec_wRhr hr v)⟩

/-- Settles O15: the read and the write are an optional diagnostic and an answer, whatever the offset. -/
theorem unrecognizedOffsetsReadZeroIgnoreWrites : Obligations.UnrecognizedOffsetsReadZeroIgnoreWrites :=
  fun _ off v hr =>
    ⟨exists_next_of_optionalDiag (exec_rUnmapped hr off), exists_next_of_optionalDiag (exec_wUnmapped hr off v)⟩

end Sys2Proof.Machine
end

section
/-! The family of 41_control.md: a Control write as a function of its operand's bits (R120), the outcome tables it gives
the receiver and the transmitter (R121, R122), and the bits with a narrow effect: RSTTX, RSTSTA (R123), REQCLR (R124). -/

namespace Sys2Proof.Machine

/-- Settles O17: `controlWrite_eq` composes the four steps field by field. -/
theorem controlWriteFollowsItsPrecedence : Obligations.ControlWriteFollowsItsPrecedence := by
  intro s v
  refine ⟨rfl, fun hr => ?_⟩
  rw [exec_wCr hr, controlWrite_eq]
  rfl

/-! ### The fields a Control write stores, by the bits of its operand (R42) -/

theorem controlWrite_receiverEnabled (p : Params) (v : Word) (d : Device) :
    (controlWrite p v d).receiverEnabled = (v.getLsbD 4 || (d.receiverEnabled && !v.getLsbD 2 && !v.getLsbD 5)) := by
  rw [controlWrite_eq, Device.recomputeIrq_receiverEnabled]

theorem controlWrite_fifo (p : Params) (v : Word) (d : Device) :
    (controlWrite p v d).fifo = if v.getLsbD 2 then [] else d.fifo := by
  rw [controlWrite_eq, Device.recomputeIrq_fifo]

theorem controlWrite_transmitterEnabled (p : Params) (v : Word) (d : Device) :
    (controlWrite p v d).transmitterEnabled =
      (!v.getLsbD 7 && (v.getLsbD 6 || (d.transmitterEnabled && !v.getLsbD 3))) := by
  rw [controlWrite_eq, Device.recomputeIrq_transmitterEnabled]

/-! ### The outcome tables (R121, R122) -/

/-- Settles O18: the fields `receiverEnabled` and `fifo` at each of the eight values of RSTRX, RXEN and RXDIS. -/
theorem receiverOutcomeOfControlWrite : Obligations.ReceiverOutcomeOfControlWrite := by
  intro s v hr
  refine ⟨_, exec_wCr hr v, ?_⟩
  rw [State.answer_dev, State.setDev_dev, controlWrite_receiverEnabled, controlWrite_fifo]
  cases v.getLsbD 2 <;> cases v.getLsbD 4 <;> cases v.getLsbD 5 <;> simp

/-- Setting other bits leaves a bit as it is. -/
theorem bit_or_mask (v : Word) {m : Word} {n : Nat} (h : bit m n = false) : bit (v ||| m) n = bit v n := by
  rw [bit, BitVec.getLsbD_or, ← bit, ← bit, h, Bool.or_false]

/-- RSTTX takes part in the transmitter enable only, and the IRQ level follows it (R122). -/
theorem controlWrite_or_rsttx (p : Params) (v : Word) (d : Device) :
    controlWrite p (v ||| 0x8#32) d =
      { controlWrite p v d with
        transmitterEnabled := (controlWrite p (v ||| 0x8#32) d).transmitterEnabled
        irqLine := irqFn (controlWrite p (v ||| 0x8#32) d) } := by
  simp (disch := decide) only [controlWrite_eq, CR.rstrx, CR.rxen, CR.rxdis, CR.txen, CR.txdis, CR.rststa, bit_or_mask]
  rfl

/-- Settles O19: RSTTX by `controlWrite_or_rsttx`, then `transmitterEnabled` at each value of TXDIS, RSTTX and TXEN. -/
theorem transmitterOutcomeOfControlWrite : Obligations.TransmitterOutcomeOfControlWrite := by
  intro s v hr
  refine ⟨_, exec_wCr hr v, ⟨_, exec_wCr hr _, controlWrite_or_rsttx s.params v s.dev⟩, ?_⟩
  rw [State.answer_dev, State.setDev_dev, controlWrite_transmitterEnabled]
  cases v.getLsbD 7 <;> cases v.getLsbD 3 <;> cases v.getLsbD 6 <;> simp

/-! ### RSTSTA and REQCLR (R123, R124) -/

theorem controlWrite_flags_of_rststa {v : Word} (h : CR.rststa v = true) (p : Params) (d : Device) :
    (controlWrite p v d).parityError = false ∧ (controlWrite p v d).frameError = false
      ∧ (controlWrite p v d).compareSucceeded = false ∧ (controlWrite p v d).overrunError = false := by
  simp [controlWrite_eq, h]

/-- RSTSTA alone is step (4) of R120 and the recomputation; the four flags are no arguments of `irqFn`. -/
theorem controlWrite_rststa_only (p : Params) (d : Device) :
    controlWrite p 0x100#32 d =
      { d with
        parityError := false, frameError := false, compareSucceeded := false, overrunError := false
        irqLine := irqFn d } := rfl

/-- Settles O20: `controlWrite_flags_of_rststa` beside any other bits, `controlWrite_rststa_only` for RSTSTA alone. -/
theorem statusResetClearsExactlyFourFlags : Obligations.StatusResetClearsExactlyFourFlags := by
  refine fun s hr => ⟨fun v h => ⟨_, exec_wCr hr v, controlWrite_flags_of_rststa h s.params s.dev⟩, ?_⟩
  rw [exec_wCr hr, controlWrite_rststa_only]
  rfl

theorem controlWrite_or_reqclr (p : Params) (v : Word) (d : Device) :
    controlWrite p (v ||| 0x1000#32) d = controlWrite p v d := by
  simp (disch := decide) only [controlWrite_eq, CR.rstrx, CR.rsttx, CR.rxen, CR.rxdis, CR.txen, CR.txdis, CR.rststa,
    bit_or_mask]

/-- Settles O21: no field of a Control write takes bit 12; a faulted device answers neither write. -/
theorem reqclrHasNoEffect : Obligations.ReqclrHasNoEffect := by
  refine fun s v => exec_eq_of_running fun hr => ?_
  rw [exec_wCr hr, exec_wCr hr, controlWrite_or_reqclr]

end Sys2Proof.Machine
end

section
/-! The family of 42_mode.md: the fields of a Mode write and of a Mode read (R141, R142), how the two undo each other,
and the round trip of a parity type from a Mode write to a line query (R145). -/

namespace Sys2Proof.Machine

/-! ### The two stored fields (R43, R85) -/

theorem MR.mode_eq_setWidth (v : Word) : MR.mode v = v.setWidth 4 :=
  (BitVec.setWidth_eq_extractLsb' (by decide)).symm

theorem MR.par_eq_setWidth (v : Word) : MR.par v = (v >>> 9).setWidth 3 :=
  BitVec.setWidth_ushiftRight_eq_extractLsb.symm

/-- A PAR value in its place in the word is read back by the PAR field. -/
theorem MR.par_shiftLeft (n : BitVec 3) : MR.par (n.setWidth 32 <<< 9) = n := by
  ext i hi
  have hword : 9 + i < 32 := by omega
  simp [hi, hword]

theorem MR.mode_modeValue (d : Device) : MR.mode (modeValue d) = d.modeSel := by
  ext i hi
  have hword : i < 32 := by omega
  have hpar : i < 9 := by omega
  simp [modeValue, hi, hword, hpar]

theorem MR.par_modeValue (d : Device) : MR.par (modeValue d) = d.parRaw := by
  have hmode : MR.par (d.modeSel.setWidth 32) = 0#3 := by
    ext i hi
    simp [BitVec.getLsbD_of_ge d.modeSel (9 + i) (by omega)]
  rw [modeValue, MR.par, BitVec.extractLsb'_or, ← MR.par, ← MR.par, hmode, MR.par_shiftLeft, BitVec.zero_or]

/-- The mask of R85 holds the bits of MODE and of PAR. -/
theorem MR.mask_getLsbD {n : Nat} (h : n < 32) :
    (0x00000E0F#32 : Word).getLsbD n = (decide (n < 4) || (decide (9 ≤ n) && decide (n < 12))) := by
  decide +revert

/-- The two fields, each in its place, make up the masked word. -/
theorem modeValue_of_fields {d : Device} {v : Word} (hmode : d.modeSel = MR.mode v) (hpar : d.parRaw = MR.par v) :
    modeValue d = v &&& 0x00000E0F#32 := by
  rw [modeValue, hmode, hpar]
  refine BitVec.eq_of_getLsbD_eq fun n hn => ?_
  rw [BitVec.getLsbD_and, MR.mask_getLsbD hn]
  rcases Nat.lt_or_ge n 9 with hlow | hhigh
  · simp [hn, hlow, Nat.not_le.mpr hlow, Bool.and_comm]
  · have hnotMode : ¬ n < 4 := by omega
    have hparBit : n - 9 < 3 ↔ n < 12 := by omega
    simp [hn, hhigh, hnotMode, hparBit, Bool.and_comm]

/-- A Mode read shows no bit outside the two fields (D10). -/
theorem modeValue_and_mask (d : Device) : modeValue d &&& 0x00000E0F#32 = modeValue d :=
  (modeValue_of_fields (MR.mode_modeValue d).symm (MR.par_modeValue d).symm).symm

/-- Settles O23: the fields of `modeValue`, which the read answers. -/
theorem modeReadReturnsModeAndParity : Obligations.ModeReadReturnsModeAndParity := by
  refine ⟨rfl, fun s hr => ⟨modeValue s.dev, exec_rMr hr, ?_, ?_, modeValue_and_mask s.dev⟩⟩
  · rw [← MR.mode_eq_setWidth, MR.mode_modeValue]
  · rw [← MR.par_eq_setWidth, MR.par_modeValue]

/-! ### A Mode write (R141) -/

/-- A Mode write of a running device completes: the device holds the two fields, and still runs. -/
theorem exec_wMr_next {s : State} (hr : s.Running) (v : Word) :
    ∃ t, exec (.wMr v) s = .next t ∧ t.Running ∧ t.params = s.params
      ∧ t.dev.modeSel = MR.mode v ∧ t.dev.parRaw = MR.par v := by
  have h := exec_wMr hr v
  have hdev := (exec_devStep h).wMr_eq
  refine ⟨_, h, ?_, (exec_params_pending h).1, ?_, ?_⟩
  · rw [State.Running, hdev]
    exact hr
  · rw [hdev]
  · rw [hdev]

theorem modeDiag_of_mode_zero {v : Word} (h : MR.mode v = 0#4) (s : State) : modeDiag v s = s.optionalDiag .tagged :=
  if_pos h

theorem modeDiag_of_mode_ne_zero {v : Word} (h : MR.mode v ≠ 0#4) (s : State) :
    modeDiag v s = s.emitDiag .modeNonzero :=
  if_neg h

/-- Settles O22: the device and what surrounds it by the step laws, the outputs by the two cases of `modeDiag`. -/
theorem modeWriteStoresModeAndParity : Obligations.ModeWriteStoresModeAndParity := by
  refine fun s v => ⟨rfl, fun hr => ?_⟩
  have h := exec_wMr hr v
  obtain ⟨hparams, hpending⟩ := exec_params_pending h
  refine ⟨_, h, ?_, rfl, hparams, hpending, fun hmode => ?_, fun hmode => ?_⟩
  · rw [(exec_devStep h).wMr_eq, MR.mode_eq_setWidth, MR.par_eq_setWidth]
  · rw [← MR.mode_eq_setWidth] at hmode
    rw [modeDiag_of_mode_ne_zero hmode]
    rfl
  · rw [← MR.mode_eq_setWidth] at hmode
    rw [modeDiag_of_mode_zero hmode]
    exact optionalDiag_mayEmit _ .tagged .nothing

/-- Settles O24: the write stores the two fields, and `modeValue_of_fields` puts them together again. -/
theorem modeReadsBackWhatWasWritten : Obligations.ModeReadsBackWhatWasWritten := by
  intro s v hr
  obtain ⟨t, hwrite, hrt, -, hmode, hpar⟩ := exec_wMr_next hr v
  refine ⟨t, _, hwrite, exec_rMr hrt, ?_⟩
  rw [State.answer_response, modeValue_of_fields hmode hpar]

/-! ### The parity type (R144, R145) -/

/-- A line query under a valid PAR value answers its parity type (R263). -/
theorem exec_evQueryline_of_valid {s : State} (hr : s.Running) {p : Parity}
    (hp : parityOf s.params s.dev.parRaw = some p) :
    exec .evQueryline s = .next (s.answer (.line (lineParams p))) := by
  rw [exec_evQueryline hr, queryLine, hp]

/-- Settles O48: the write stores the PAR value, and the query under it answers its type. -/
theorem parityRoundTrip : Obligations.ParityRoundTrip := by
  refine ⟨fun s n p hr hp => ?_, rfl, rfl, rfl, rfl, rfl⟩
  obtain ⟨t, hwrite, hrt, hparams, -, hpar⟩ := exec_wMr_next hr (n.setWidth 32 <<< 9)
  have hvalid : parityOf t.params t.dev.parRaw = some p := by rw [hparams, hpar, MR.par_shiftLeft, hp]
  exact ⟨t, _, lineParams p, hwrite, exec_evQueryline_of_valid hrt hvalid, rfl, rfl, rfl⟩

end Sys2Proof.Machine
end

section
/-! The family of 43_channel_status.md: the bits of a ChannelStatus read (R160), that it neither changes nor remembers
anything (R161), and what TXRDY reports (R162). -/

namespace Sys2Proof.Machine

/-! ### The bits of the word (R160) -/

/-- A field `b(x) << i` inside the word holds its flag at bit `i` and no other bit (R13). -/
@[simp] theorem flagAt_getLsbD (x : Bool) {i : Nat} (hi : i < 32) (n : Nat) :
    (flagAt x i).getLsbD n = (decide (n = i) && x) := by
  cases x with
  | false => simp [flagAt]
  | true =>
    rw [flagAt, if_pos rfl, ← BitVec.twoPow_eq, BitVec.getLsbD_twoPow]
    simp [hi, eq_comm]

/-- A ChannelStatus read bit by bit. -/
theorem statusValue_getLsbD (d : Device) (n : Nat) :
    (statusValue d).getLsbD n =
      (decide (n = 0) && d.receiverReady || decide (n = 1) && d.transmitterEnabled
        || decide (n = 5) && d.overrunError || decide (n = 6) && d.frameError
        || decide (n = 7) && d.parityError || decide (n = 15) && d.compareSucceeded) := by
  simp [statusValue]

theorem statusValue_getLsbD_txrdy (d : Device) : (statusValue d).getLsbD 1 = d.transmitterEnabled := by
  rw [statusValue_getLsbD]
  simp

theorem statusValue_getLsbD_undeclared (d : Device) {n : Nat} (hn : n ∉ [0, 1, 5, 6, 7, 15]) :
    (statusValue d).getLsbD n = false := by
  simp only [List.mem_cons, List.not_mem_nil, or_false, not_or] at hn
  simp [statusValue_getLsbD, hn]

/-- Settles O26: the read answers `statusValue`, whose bits are those of `statusValue_getLsbD`. -/
theorem statusReadReportsEachFlag : Obligations.StatusReadReportsEachFlag := by
  refine ⟨rfl, fun s hr => ⟨statusValue s.dev, exec_rCsr hr, ?_, statusValue_getLsbD_txrdy s.dev, ?_, ?_, ?_, ?_,
    fun _ => statusValue_getLsbD_undeclared s.dev⟩⟩
  all_goals
    rw [statusValue_getLsbD]
    simp

/-! ### No caching, no effect (R161) -/

/-- Settles O27: the answer is a function of the device alone, and the read changes nothing but the response. -/
theorem statusReadIsUnaffectedByItself : Obligations.StatusReadIsUnaffectedByItself := by
  intro s hr
  have hrt : (s.answer (.word (statusValue s.dev))).Running := hr
  refine ⟨_, exec_rCsr hr, rfl, exec_rCsr hrt, fun u w hdev hread => ?_⟩
  rw [exec_rCsr (exec_next_running hread), hdev] at hread
  cases hread
  rfl

/-! ### TXRDY (R162) -/

/-- Settles O28: bit 1 by `statusValue_getLsbD_txrdy`, its writers by `DevStep.enables_unchanged`. -/
theorem txrdyMirrorsTransmitterEnabled : Obligations.TxrdyMirrorsTransmitterEnabled :=
  ⟨fun s hr => ⟨statusValue s.dev, exec_rCsr hr, statusValue_getLsbD_txrdy s.dev⟩,
    fun _ _ _ h hi => ((exec_devStep h).enables_unchanged hi).2⟩

end Sys2Proof.Machine
end

section
/-! The family of 44_receive_holding.md: the three reads of ReceiveHolding, with the receiver disabled (R181), of a byte
(R182, R183, R185) and of an empty FIFO (R184). -/

namespace Sys2Proof.Machine

/-! ### The popped device (R182, R183) -/

theorem compareMatches_eq_decide (d : Device) (b : Byte) :
    compareMatches d b =
      decide (d.compareModeEnable = true ∧ d.compareVal1.toNat ≤ b.toNat ∧ b.toNat ≤ d.compareVal2.toNat) :=
  Bool.eq_iff_iff.mpr ((compareMatches_iff d b).trans decide_eq_true_iff.symm)

/-- The compare latch is the old latch or a match: a pop sets it and never clears it (R183). -/
theorem popped_compareSucceeded_eq_or (d : Device) (b : Byte) (rest : List Byte) :
    (d.popped b rest).compareSucceeded = (d.compareSucceeded || compareMatches d b) := by
  rw [Device.popped_compareSucceeded]
  cases compareMatches d b with
  | false => exact (Bool.or_false _).symm
  | true => exact (Bool.or_true _).symm

/-- RXRDY falls with the last byte (R182). -/
theorem popped_receiverReady_eq_ite (d : Device) (b : Byte) (rest : List Byte) :
    (d.popped b rest).receiverReady = if rest = [] then false else d.receiverReady := by
  cases rest <;> rfl

/-- A pop writes the FIFO and the two latches, and no other field. -/
theorem popped_eq (d : Device) (b : Byte) (rest : List Byte) :
    d.popped b rest =
      { d with
        fifo := rest
        receiverReady := if rest = [] then false else d.receiverReady
        compareSucceeded := d.compareSucceeded
          || decide (d.compareModeEnable = true ∧ d.compareVal1.toNat ≤ b.toNat
              ∧ b.toNat ≤ d.compareVal2.toNat) } := by
  rw [← popped_receiverReady_eq_ite d b rest, ← compareMatches_eq_decide, ← popped_compareSucceeded_eq_or d b rest]
  rfl

/-! ### The three reads -/

/-- Settles O30: the read is `receivePop`, whose device is that of `popped_eq` with the IRQ level recomputed. -/
theorem receiveReadPopsTheHead : Obligations.ReceiveReadPopsTheHead := by
  intro s b rest hr hen hf
  rw [exec_rRhr_of_head hr hen hf, receivePop, popped_eq, BitVec.ofNat_toNat]
  rfl

/-- Settles O29: the read is `receiveDisabled`. -/
theorem receiveReadWhileDisabledReturnsZero : Obligations.ReceiveReadWhileDisabledReturnsZero := by
  intro s hr hoff
  rw [exec_rRhr hr, receiveRead_of_disabled s hoff]
  rfl

/-- An RHR read of an enabled receiver with no byte to pop (R184). -/
theorem exec_rRhr_of_empty {s : State} (hr : s.Running) (hen : s.dev.receiverEnabled = true)
    (hf : s.dev.fifo = []) : exec .rRhr s = .next (receiveEmpty s) := by
  rw [exec_rRhr hr, receiveRead_of_empty s hen hf]

/-- Settles O31: the read is `receiveEmpty`, whose word is the free value drawn at the counter. -/
theorem receiveReadOfEmptyFifoCompletes : Obligations.ReceiveReadOfEmptyFifoCompletes :=
  fun s hr hen hf =>
    ⟨receiveEmpty s, Config.freeWord s.draws, exec_rRhr_of_empty hr hen hf, rfl, rfl, rfl, rfl, rfl⟩

end Sys2Proof.Machine
end

section
/-! The family of 45_transmit_holding.md: a THR write hands over its low byte, or does nothing (R200). -/

namespace Sys2Proof.Machine

/-! ### The hand-off (R200) -/

theorem transmit_of_disabled (v : Word) {s : State} (hoff : s.dev.transmitterEnabled = false) :
    transmit v s = s := by
  rw [transmit, if_neg (by simp [hoff])]

theorem transmit_of_enabled (v : Word) {s : State} (hen : s.dev.transmitterEnabled = true) :
    transmit v s = (s.emitTx (v.setWidth 8)).setDev s.dev.recomputeIrq := by
  rw [transmit, if_pos hen, THR.txchr_eq_setWidth]

/-- A byte handed over stands after the earlier outputs, with nothing but the optional diagnostic behind it. -/
theorem emitTx_mayEmit_outputs {s t : State} {b : Byte} {dev : Device} {d : Diag}
    (h : ((s.emitTx b).setDev dev).MayEmit t d) :
    t.outputs = s.outputs ++ [.txByte b] ∨ t.outputs = s.outputs ++ [.txByte b, .diag d] := by
  obtain ⟨-, -, hout⟩ := h
  simpa using hout

/-- Settles O34: the write is `transmit`, then perhaps DG_TAGGED; the two clauses are the two cases of `transmit`. -/
theorem transmitWriteHandsOverTheLowByte : Obligations.TransmitWriteHandsOverTheLowByte := by
  refine fun s v => ⟨rfl, fun hr => ?_⟩
  have h := exec_wThr hr v
  obtain ⟨hparams, hpending⟩ := exec_params_pending h
  have hemit := exec_wThr_mayEmit h
  refine ⟨_, h, rfl, hparams, hpending, fun hoff => ?_, fun hen => ?_⟩
  · rw [transmit_of_disabled v hoff] at hemit ⊢
    obtain ⟨-, -, hout⟩ := hemit
    exact ⟨rfl, hout⟩
  · rw [transmit_of_enabled v hen] at hemit ⊢
    exact ⟨rfl, emitTx_mayEmit_outputs hemit⟩

end Sys2Proof.Machine
end

section
/-! The family of 46_interrupt.md: the writes and the read of the interrupt mask (R220 to R223), the IRQ equation (R226),
and what cannot move the IRQ level: the transmit side once its interrupt is up (R229), and the error and compare flags
(R230). -/

namespace Sys2Proof.Machine

/-! ### IER and IDR (R220, R221) -/

theorem maskWrite_true_eq (v : Word) (d : Device) :
    maskWrite true v d =
      { d with
        receiverReadyIrqEnabled := v.getLsbD 0 || d.receiverReadyIrqEnabled
        transmitterReadyIrqEnabled := v.getLsbD 1 || d.transmitterReadyIrqEnabled } := by
  simp [maskWrite]

theorem maskWrite_false_eq (v : Word) (d : Device) :
    maskWrite false v d =
      { d with
        receiverReadyIrqEnabled := !v.getLsbD 0 && d.receiverReadyIrqEnabled
        transmitterReadyIrqEnabled := !v.getLsbD 1 && d.transmitterReadyIrqEnabled } := by
  simp [maskWrite]

/-- Settles O36: the write is `maskWrite true` and the recomputation. -/
theorem interruptEnableSetsMaskBits : Obligations.InterruptEnableSetsMaskBits := by
  refine fun s v => ⟨rfl, fun hr => ?_⟩
  rw [exec_wIer hr, maskWrite_true_eq]
  rfl

/-- Settles O37: the write is `maskWrite false` and the recomputation. -/
theorem interruptDisableClearsMaskBits : Obligations.InterruptDisableClearsMaskBits := by
  refine fun s v => ⟨rfl, fun hr => ?_⟩
  rw [exec_wIdr hr, maskWrite_false_eq]
  rfl

/-! ### The last write of a bit as 1 (R223) -/

/-- An IER (`true`) or an IDR (`false`) write as one operation. -/
theorem exec_maskWrite {s : State} (hr : s.Running) (b : Bool) (v : Word) :
    exec (if b then .wIer v else .wIdr v) s =
      .next ((s.setDev (maskWrite b v s.dev).recomputeIrq).answer .nothing) := by
  cases b with
  | true => exact exec_wIer hr v
  | false => exact exec_wIdr hr v

/-- The mask bit that `x` becomes under the writes `ws`, where bit `n` of a word selects it (R223). -/
def lastMaskWrite (n : Nat) (ws : List (Bool × Word)) (x : Bool) : Bool :=
  match (ws.filter fun w => w.2.getLsbD n).getLast? with
  | some w => w.1
  | none => x

theorem lastMaskWrite_nil (n : Nat) (x : Bool) : lastMaskWrite n [] x = x := rfl

/-- The first write passes its bit on to the rest, which may write it again. -/
theorem lastMaskWrite_cons (n : Nat) (b : Bool) (v : Word) (ws : List (Bool × Word)) (x : Bool) :
    lastMaskWrite n ((b, v) :: ws) x = lastMaskWrite n ws (if v.getLsbD n then b else x) := by
  unfold lastMaskWrite
  cases hbit : v.getLsbD n with
  | false => simp [hbit]
  | true =>
    simp only [List.filter_cons, hbit, if_true, List.getLast?_cons]
    cases (ws.filter fun w => w.2.getLsbD n).getLast? <;> rfl

theorem execAll_maskWrites (ws : List (Bool × Word)) (s : State) (hr : s.Running) :
    ∃ t, execAll (ws.map fun w => if w.1 then .wIer w.2 else .wIdr w.2) s = .next t
      ∧ t.dev.receiverReadyIrqEnabled = lastMaskWrite 0 ws s.dev.receiverReadyIrqEnabled
      ∧ t.dev.transmitterReadyIrqEnabled = lastMaskWrite 1 ws s.dev.transmitterReadyIrqEnabled := by
  induction ws generalizing s with
  | nil => exact ⟨s, rfl, rfl, rfl⟩
  | cons w ws ih =>
    obtain ⟨b, v⟩ := w
    rw [List.map_cons, execAll_cons_of_next (exec_maskWrite hr b v), lastMaskWrite_cons, lastMaskWrite_cons]
    exact ih ((s.setDev (maskWrite b v s.dev).recomputeIrq).answer .nothing) hr

/-- Settles O39: `lastMaskWrite` is the statement's last write, by induction over the writes. -/
theorem lastMaskWriteWins : Obligations.LastMaskWriteWins :=
  fun s ws hr => execAll_maskWrites ws s hr

/-! ### IMR (R222) -/

/-- An InterruptMask read bit by bit. -/
theorem maskValue_getLsbD (d : Device) (n : Nat) :
    (maskValue d).getLsbD n =
      (decide (n = 0) && d.receiverReadyIrqEnabled || decide (n = 1) && d.transmitterReadyIrqEnabled) := by
  simp [maskValue]

/-- Settles O38: the read answers `maskValue`, whose bits are those of `maskValue_getLsbD`. -/
theorem interruptMaskReadShowsTheEnables : Obligations.InterruptMaskReadShowsTheEnables := by
  refine ⟨rfl, fun s hr => ⟨maskValue s.dev, exec_rImr hr, ?_, ?_, fun k hk => ?_⟩⟩
  · rw [maskValue_getLsbD]
    simp
  · rw [maskValue_getLsbD]
    simp
  · have hzero : k ≠ 0 := by omega
    have hone : k ≠ 1 := by omega
    simp [maskValue_getLsbD, hzero, hone]

/-! ### The IRQ equation (R226) -/

theorem irqFn_iff (d : Device) :
    irqFn d = true ↔
      (d.receiverEnabled = true ∧ d.receiverReadyIrqEnabled = true ∧ d.receiverReady = true)
        ∨ (d.transmitterEnabled = true ∧ d.transmitterReadyIrqEnabled = true) := by
  simp [irqFn, and_assoc]

/-- Settles O40: a recomputed level is right (R38), and recomputing a right level changes nothing. -/
theorem irqEquation : Obligations.IrqEquation :=
  ⟨irqFn_iff, fun d => ⟨rfl, recomputeIrq_of_irqInv (recomputeIrq_irqInv d)⟩⟩

/-! ### The transmit interrupt (R229) -/

/-- A THR write and a TxDrained event do no more to the device than recompute the IRQ level, which is right. -/
theorem exec_transmitSide_dev {i : Instr} {s : State} (hi : i = .evTxdrained ∨ ∃ v, i = .wThr v) (hr : s.Running)
    (hirq : s.dev.IrqInv) : ∃ t, exec i s = .next t ∧ t.dev = s.dev := by
  rcases hi with rfl | ⟨v, rfl⟩
  · exact ⟨_, exec_evTxdrained hr, recomputeIrq_of_irqInv hirq⟩
  · refine ⟨_, exec_wThr hr v, ?_⟩
    rcases transmit_cases v s with ⟨-, e⟩ | ⟨-, e⟩ <;> rw [e]
    · rfl
    · exact recomputeIrq_of_irqInv hirq

/-- Operations that each complete and leave the device `d` as it is do so in sequence. -/
theorem execAll_dev_of_exec_dev {d : Device} {is : List Instr}
    (h : ∀ i ∈ is, ∀ s : State, s.dev = d → ∃ t, exec i s = .next t ∧ t.dev = d) (s : State) (hs : s.dev = d) :
    ∃ t, execAll is s = .next t ∧ t.dev = d := by
  induction is generalizing s with
  | nil => exact ⟨s, rfl, hs⟩
  | cons i is ih =>
    obtain ⟨t, hexec, ht⟩ := h i List.mem_cons_self s hs
    rw [execAll_cons_of_next hexec]
    exact ih (fun j hj => h j (List.mem_cons_of_mem i hj)) t ht

/-- Settles O41: the two enables make the level right (R38), so each operation leaves the device as it is. -/
theorem transmitInterruptHolds : Obligations.TransmitInterruptHolds := by
  intro s is hr hen hmask hup hall
  have hirq : s.dev.IrqInv := hup.trans ((irqFn_iff s.dev).mpr (.inr ⟨hen, hmask⟩)).symm
  refine execAll_dev_of_exec_dev (fun i hi u hu => ?_) s rfl
  have hru : u.Running := by rw [State.Running, hu, hr]
  rw [← hu] at hirq ⊢
  exact exec_transmitSide_dev (hall i hi) hru hirq

/-! ### The error and compare flags (R230) -/

/-- The operations that recompute the IRQ level, a THR write where the transmitter is enabled (R227). -/
def recomputesIrq : Instr → Bool
  | .rRhr | .wCr _ | .wIer _ | .wIdr _ | .wThr _ | .evRxchar _ | .evTxdrained => true
  | _ => false

theorem DevStep.irqLine_unchanged {p : Params} {d d' : Device} {i : Instr} (h : DevStep p d i d')
    (hi : recomputesIrq i = false) : d'.irqLine = d.irqLine := by
  cases h with
  | rhrDisabled | rhrEmpty | rhrPop | control | ier | idr | thrDisabled | thr | rxDropped | rxPush | drained => cases hi
  | _ => rfl

section ErrorFlags

variable (s : State) (ovre frame pare cmp : Bool)

theorem receiveRead_irqLine_withErrorFlags :
    (receiveRead (s.withErrorFlags ovre frame pare cmp)).dev.irqLine = (receiveRead s).dev.irqLine := by
  rcases receiveRead_cases s with ⟨hoff, e⟩ | ⟨hen, hf, e⟩ | ⟨hen, b, rest, hf, e⟩ <;> rw [e]
  · rw [receiveRead_of_disabled (s.withErrorFlags ovre frame pare cmp) hoff]; rfl
  · rw [receiveRead_of_empty (s.withErrorFlags ovre frame pare cmp) hen hf]; rfl
  · rw [receiveRead_of_head (s.withErrorFlags ovre frame pare cmp) hen hf]; rfl

theorem transmit_irqLine_withErrorFlags (v : Word) :
    (transmit v (s.withErrorFlags ovre frame pare cmp)).dev.irqLine = (transmit v s).dev.irqLine := by
  have hen : (s.withErrorFlags ovre frame pare cmp).dev.transmitterEnabled = s.dev.transmitterEnabled := rfl
  rw [transmit, transmit, hen]
  split <;> rfl

theorem receiveChar_irqLine_withErrorFlags (b : Byte) :
    (receiveChar b (s.withErrorFlags ovre frame pare cmp)).dev.irqLine = (receiveChar b s).dev.irqLine := by
  have hdrop : dropsCharacter (s.withErrorFlags ovre frame pare cmp) = dropsCharacter s := rfl
  rw [receiveChar, receiveChar, hdrop]
  split <;> rfl

theorem controlWrite_irqLine_withErrorFlags (p : Params) (v : Word) :
    (controlWrite p v (s.withErrorFlags ovre frame pare cmp).dev).irqLine = (controlWrite p v s.dev).irqLine := by
  rw [controlWrite_eq, controlWrite_eq]; rfl

end ErrorFlags

/-- An operation answers one state. -/
theorem exec_next_unique {i : Instr} {s t u : State} (ht : exec i s = .next t) (hu : exec i s = .next u) : t = u :=
  Host.Outcome.next.inj (ht.symm.trans hu)

/-- Settles O42: no guard and no argument of `irqFn` is one of the four flags, so the operations that recompute give
the same level; the others keep it. -/
theorem errorFlagsRaiseNoInterrupt : Obligations.ErrorFlagsRaiseNoInterrupt := by
  intro i s t u ovre frame pare cmp ht hu
  have hr := exec_next_running ht
  have hr' := exec_next_running hu
  cases hi : recomputesIrq i with
  | false => rw [(exec_devStep ht).irqLine_unchanged hi, (exec_devStep hu).irqLine_unchanged hi]; rfl
  | true =>
    cases i with
    | rRhr =>
      rw [exec_next_unique ht (exec_rRhr hr), exec_next_unique hu (exec_rRhr hr')]
      exact receiveRead_irqLine_withErrorFlags s ovre frame pare cmp
    | wThr v =>
      rw [exec_next_unique ht (exec_wThr hr v), exec_next_unique hu (exec_wThr hr' v)]
      exact transmit_irqLine_withErrorFlags s ovre frame pare cmp v
    | evRxchar b =>
      rw [exec_next_unique ht (exec_evRxchar hr b), exec_next_unique hu (exec_evRxchar hr' b)]
      exact receiveChar_irqLine_withErrorFlags s ovre frame pare cmp b
    | wCr v =>
      rw [exec_next_unique ht (exec_wCr hr v), exec_next_unique hu (exec_wCr hr' v)]
      exact controlWrite_irqLine_withErrorFlags s ovre frame pare cmp s.params v
    | wIer v => rw [exec_next_unique ht (exec_wIer hr v), exec_next_unique hu (exec_wIer hr' v)]; rfl
    | wIdr v => rw [exec_next_unique ht (exec_wIdr hr v), exec_next_unique hu (exec_wIdr hr' v)]; rfl
    | evTxdrained => rw [exec_next_unique ht (exec_evTxdrained hr), exec_next_unique hu (exec_evTxdrained hr')]; rfl
    | _ => cases hi

end Sys2Proof.Machine
end

section
/-! The family of 47_compare.md: the three fields a Compare write stores (R240), and the word a Compare read gives back
under each value of CMPR_READBACK (R242, D7). -/

namespace Sys2Proof.Machine

/-! ### The three stored fields (R50, R85) -/

theorem CMPR.val1_eq_setWidth (v : Word) : CMPR.val1 v = v.setWidth 8 :=
  (BitVec.setWidth_eq_extractLsb' (by decide)).symm

theorem CMPR.val2_eq_setWidth (v : Word) : CMPR.val2 v = (v >>> 16).setWidth 8 :=
  BitVec.setWidth_ushiftRight_eq_extractLsb.symm

/-- Settles O43: the write stores the three fields of `compareWrite`, then perhaps DG_TAGGED. -/
theorem compareWriteStoresItsThreeFields : Obligations.CompareWriteStoresItsThreeFields := by
  refine fun s v => ⟨rfl, fun hr => ⟨_, exec_wCmpr hr v, ?_, rfl, ?_⟩⟩
  · rw [← CMPR.val1_eq_setWidth, ← CMPR.val2_eq_setWidth]
    rfl
  · exact optionalDiag_mayEmit (s.setDev (compareWrite v s.dev)) .tagged .nothing

/-! ### A Compare read (R242) -/

theorem compareValue_of_zero {p : Params} (h : p.cmprReadback = .zero) (d : Device) : compareValue p d = 0#32 := by
  rw [compareValue, h]

theorem compareValue_of_stored {p : Params} (h : p.cmprReadback = .stored) (d : Device) :
    compareValue p d =
      d.compareVal1.setWidth 32 ||| flagAt d.compareModeEnable 12 ||| (d.compareVal2.setWidth 32 <<< 16) := by
  rw [compareValue, h]

/-- The mask of R85 holds the bits of VAL1, CMPMODE and VAL2. -/
theorem CMPR.mask_getLsbD {n : Nat} (h : n < 32) :
    (0x00FF10FF#32 : Word).getLsbD n =
      (decide (n < 8) || decide (n = 12) || (decide (16 ≤ n) && decide (n < 24))) := by
  decide +revert

/-- The three fields of a word, each put back in its place, make up the masked word. -/
theorem compareFields_eq_and_mask (v : Word) :
    (CMPR.val1 v).setWidth 32 ||| flagAt (CMPR.cmpmode v) 12 ||| ((CMPR.val2 v).setWidth 32 <<< 16)
      = v &&& 0x00FF10FF#32 := by
  refine BitVec.eq_of_getLsbD_eq fun n hn => ?_
  rw [BitVec.getLsbD_and, CMPR.mask_getLsbD hn, BitVec.getLsbD_or, BitVec.getLsbD_or, flagAt_getLsbD _ (by decide)]
  rcases Nat.lt_or_ge n 16 with hlow | hhigh
  · have hval2 : ¬ 16 ≤ n := Nat.not_le.mpr hlow
    rcases eq_or_ne n 12 with rfl | hmode
    · simp
    · simp [hn, hlow, hmode, hval2, Bool.and_comm]
  · have hval1 : ¬ n < 8 := by omega
    have hmode : n ≠ 12 := by omega
    have hval2 : n - 16 < 8 ↔ n < 24 := by omega
    simp [hn, hhigh, hval1, hmode, hval2, Bool.and_comm]

/-- Under Stored, the device that a Compare write leaves shows the masked word. -/
theorem compareValue_compareWrite {p : Params} (h : p.cmprReadback = .stored) (v : Word) (d : Device) :
    compareValue p (compareWrite v d) = v &&& 0x00FF10FF#32 :=
  (compareValue_of_stored h _).trans (compareFields_eq_and_mask v)

/-- Settles O44: the read answers `compareValue`; a write before it by `compareValue_compareWrite`. -/
theorem compareReadFollowsReadback : Obligations.CompareReadFollowsReadback := by
  refine fun s v hr => ⟨fun hzero => ?_, fun hstored => ⟨⟨_, exec_rCmpr hr⟩, ?_⟩⟩
  · rw [exec_rCmpr hr, compareValue_of_zero hzero]
    rfl
  · have hrt : (((s.setDev (compareWrite v s.dev)).optionalDiag .tagged).answer .nothing).Running := hr
    exact ⟨_, _, exec_wCmpr hr v, exec_rCmpr hrt,
      congrArg Response.word (compareValue_compareWrite hstored v s.dev)⟩

end Sys2Proof.Machine
end

section
/-! The family of 48_transport_events.md: what each of the four transport events does (R260, R261, R263, R265). -/

namespace Sys2Proof.Machine

/-! ### The receive event (R260) -/

theorem receiveChar_of_drop (b : Byte) {s : State} (hoff : s.dev.receiverEnabled = false)
    (hdrop : s.params.rxWhileDisabled = .drop) : receiveChar b s = s.optionalDiag .rxDropped := by
  rw [receiveChar, dropsCharacter, hoff, hdrop]
  rfl

theorem receiveChar_of_admitted (b : Byte) {s : State}
    (h : s.dev.receiverEnabled = true ∨ s.params.rxWhileDisabled = .enqueue) :
    receiveChar b s = s.setDev (s.dev.push b).recomputeIrq := by
  have hkeep : dropsCharacter s = false := by
    rcases h with h | h <;> simp [dropsCharacter, h]
  rw [receiveChar, hkeep, if_neg Bool.false_ne_true]

/-- Settles O45: the two cases of `receiveChar`. -/
theorem receiveEventEnqueuesOrDrops : Obligations.ReceiveEventEnqueuesOrDrops := by
  refine fun s b hr => ⟨fun ⟨hoff, hdrop⟩ => exists_next_of_optionalDiag ?_, fun hadmit => ?_⟩
  · rw [exec_evRxchar hr, receiveChar_of_drop b hoff hdrop]
  · rw [exec_evRxchar hr, receiveChar_of_admitted b hadmit]
    rfl

/-! ### TxDrained (R261) -/

/-- Settles O46: the event is the recomputation, which leaves a right level as it is. -/
theorem txDrainedOnlyRecomputes : Obligations.TxDrainedOnlyRecomputes := by
  refine ⟨rfl, fun s hr => ⟨exec_evTxdrained hr, fun hirq => ?_⟩⟩
  rw [exec_evTxdrained hr, recomputeIrq_of_irqInv hirq]
  rfl

/-! ### The line query (R263, R303) -/

/-- A line query under an invalid PAR value faults the device. -/
theorem exec_evQueryline_of_invalid {s : State} (hr : s.Running) (hp : parityOf s.params s.dev.parRaw = none) :
    exec .evQueryline s = .next ((s.setDev (s.dev.raiseFault .parityInvalid)).answer .nothing) := by
  rw [exec_evQueryline hr, queryLine, hp]

/-- The default table of R144 maps the values 0 to 4 (D12). -/
theorem parityOf_default_eq_none_iff :
    ∀ n : BitVec 3, parityOf Params.default n = none ↔ n = 5#3 ∨ n = 6#3 ∨ n = 7#3 := by
  decide

/-- Settles O47: the query under a valid and under an invalid PAR value, and the default table. -/
theorem lineQueryReturnsParametersOrFaults : Obligations.LineQueryReturnsParametersOrFaults :=
  ⟨rfl, fun _ _ hr hp => exec_evQueryline_of_valid hr hp, fun _ => exec_evQueryline_of_invalid,
    parityOf_default_eq_none_iff⟩

/-! ### The line error (R265) -/

theorem lineError_eq (m : BitVec 3) (d : Device) :
    lineError m d =
      { d with
        overrunError := m.getLsbD 0 || d.overrunError
        frameError := m.getLsbD 1 || d.frameError
        parityError := m.getLsbD 2 || d.parityError } := by
  simp [lineError]

/-- Settles O49: `lineError_eq` where the event is offered, the refusal where it is not. -/
theorem lineErrorSetsItsFlags : Obligations.LineErrorSetsItsFlags := by
  refine fun s m hr => ⟨fun hoffered => ?_, fun hnot => ?_⟩
  · rw [exec_evLineerror hr, if_pos hoffered, lineError_eq]
    rfl
  · rw [exec_evLineerror hr, hnot, if_neg Bool.false_ne_true]

end Sys2Proof.Machine
end

section
/-! The family of 60_exceptions.md: bus operations complete and fault nothing (R300), the one way into the faulted state
(R303, R304) and the stop behind it, and the selectors that spell no operation (R306). -/

namespace Sys2Proof.Machine

/-! ### The faulted state (R303, R304) -/

/-- Everything that can become of the fault: a line query under an invalid PAR value raises it, and nothing else
touches it (R35). -/
theorem DevStep.faulted_cases {p : Params} {d d' : Device} {i : Instr} (h : DevStep p d i d') :
    (i = .evQueryline ∧ parityOf p d.parRaw = none ∧ d'.faulted = some .parityInvalid)
      ∨ (¬ (i = .evQueryline ∧ parityOf p d.parRaw = none) ∧ d'.faulted = d.faulted) := by
  cases h with
  | queryInvalid hp => exact .inl ⟨rfl, hp, rfl⟩
  | query par hp => exact .inr ⟨by simp [hp], rfl⟩
  | read _ hk _ =>
    refine .inr ⟨?_, rfl⟩
    rintro ⟨rfl, -⟩
    cases hk
  | control v => exact .inr ⟨by simp, by rw [controlWrite_eq]; rfl⟩
  | _ => exact .inr ⟨by simp, rfl⟩

/-- Settles O57: before the operation the device runs, so `DevStep.faulted_cases` decides. -/
theorem onlyAnInvalidLineQueryFaults : Obligations.OnlyAnInvalidLineQueryFaults := by
  intro i s t h
  have hr : s.dev.faulted = none := exec_next_running h
  rcases (exec_devStep h).faulted_cases with ⟨hi, hp, hf⟩ | ⟨hnot, hf⟩
  · simp [hi, hp, hf]
  · simp [hnot, hf, hr]

/-- Settles O12: the guard comes first in every operation and in the step. -/
theorem faultedDeviceHasNoStep : Obligations.FaultedDeviceHasNoStep :=
  fun _ _ h => ⟨exec_of_faulted h, whenRunning_of_faulted h _⟩

/-! ### Bus operations (R300) -/

theorem exec_running_of_ne_query {i : Instr} {s t : State} (h : exec i s = .next t) (hi : i ≠ .evQueryline) :
    t.Running :=
  not_not.mp fun hf => hi ((onlyAnInvalidLineQueryFaults i s t h).mp hf).1

/-- A read of ReceiveHolding returns a word in each of its cases. -/
theorem receiveRead_response (s : State) : ∃ v, (receiveRead s).response = .word v := by
  rcases receiveRead_cases s with ⟨-, e⟩ | ⟨-, -, e⟩ | ⟨-, b, rest, -, e⟩ <;> rw [e] <;> exact ⟨_, rfl⟩

theorem exec_busRead {i : Instr} {s : State} (hr : s.Running) (hk : i.kind = .busRead) :
    ∃ t v, exec i s = .next t ∧ t.response = .word v := by
  cases i with
  | rCr => exact ⟨_, _, exec_rCr hr, rfl⟩
  | rMr => exact ⟨_, _, exec_rMr hr, rfl⟩
  | rIer => exact ⟨_, _, exec_rIer hr, rfl⟩
  | rIdr => exact ⟨_, _, exec_rIdr hr, rfl⟩
  | rImr => exact ⟨_, _, exec_rImr hr, rfl⟩
  | rCsr => exact ⟨_, _, exec_rCsr hr, rfl⟩
  | rThr => exact ⟨_, _, exec_rThr hr, rfl⟩
  | rCmpr => exact ⟨_, _, exec_rCmpr hr, rfl⟩
  | rUnmapped off => exact ⟨_, _, exec_rUnmapped hr off, rfl⟩
  | rRhr =>
    obtain ⟨v, hv⟩ := receiveRead_response s
    exact ⟨_, v, exec_rRhr hr, hv⟩
  | _ => cases hk

theorem exec_busWrite {i : Instr} {s : State} (hr : s.Running) (hk : i.kind = .busWrite) :
    ∃ t, exec i s = .next t ∧ t.response = .nothing := by
  cases i with
  | wCr v => exact ⟨_, exec_wCr hr v, rfl⟩
  | wMr v => exact ⟨_, exec_wMr hr v, rfl⟩
  | wIer v => exact ⟨_, exec_wIer hr v, rfl⟩
  | wIdr v => exact ⟨_, exec_wIdr hr v, rfl⟩
  | wImr v => exact ⟨_, exec_wImr hr v, rfl⟩
  | wCsr v => exact ⟨_, exec_wCsr hr v, rfl⟩
  | wRhr v => exact ⟨_, exec_wRhr hr v, rfl⟩
  | wThr v => exact ⟨_, exec_wThr hr v, rfl⟩
  | wCmpr v => exact ⟨_, exec_wCmpr hr v, rfl⟩
  | wUnmapped off v => exact ⟨_, exec_wUnmapped hr off v, rfl⟩
  | _ => cases hk

/-- Settles O51: reads and writes complete with their answer, and neither is a line query. -/
theorem noBusOperationEndsInAnError : Obligations.NoBusOperationEndsInAnError := by
  refine fun i s hr => ⟨fun hk => ?_, fun hk => ?_⟩
  · obtain ⟨t, v, h, hv⟩ := exec_busRead hr hk
    exact ⟨t, v, h, hv, exec_running_of_ne_query h (by rintro rfl; cases hk)⟩
  · obtain ⟨t, h, hv⟩ := exec_busWrite hr hk
    exact ⟨t, h, hv, exec_running_of_ne_query h (by rintro rfl; cases hk)⟩

/-! ### Selectors that spell no operation (R306) -/

/-- Settles O50: the two reserved operations of a running device. -/
theorem reservedSelectorsAreRefused : Obligations.ReservedSelectorsAreRefused :=
  fun _ x hr => ⟨exec_evReserved hr x, exec_kReserved hr x⟩

end Sys2Proof.Machine
end

section
/-! The family of 70_reset_and_hazards.md: transport events only append to the FIFO (R345), RXRDY is stale after a
receiver reset (R352), and what the registers read at construction (R340, L2-K). -/

namespace Sys2Proof.Machine

/-! ### Transport events and the FIFO (R345) -/

theorem DevStep.event_fifo_append {p : Params} {d d' : Device} {i : Instr} (h : DevStep p d i d')
    (hk : i.kind = .event) : ∃ more, d'.fifo = d.fifo ++ more := by
  rcases h.fifo_cases with hsame | ⟨b, -, hpush⟩ | ⟨rfl, -⟩ | ⟨v, rfl, -⟩
  · exact ⟨[], by rw [hsame, List.append_nil]⟩
  · exact ⟨[b], hpush⟩
  · cases hk
  · cases hk

/-- A sequence completes if its first operation does and then the rest. -/
theorem execAll_cons_next {i : Instr} {is : List Instr} {s u : State} (h : execAll (i :: is) s = .next u) :
    ∃ t, exec i s = .next t ∧ execAll is t = .next u := by
  rw [execAll] at h
  split at h
  · exact ⟨_, ‹_›, h⟩
  · cases h
  · cases h

theorem execAll_events_fifo_append {is : List Instr} (hk : ∀ i ∈ is, i.kind = .event) {s t : State}
    (h : execAll is s = .next t) : ∃ more, t.dev.fifo = s.dev.fifo ++ more := by
  induction is generalizing s with
  | nil =>
    cases h
    exact ⟨[], (List.append_nil _).symm⟩
  | cons i is ih =>
    obtain ⟨u, hfirst, hrest⟩ := execAll_cons_next h
    obtain ⟨more₁, h₁⟩ := (exec_devStep hfirst).event_fifo_append (hk i List.mem_cons_self)
    obtain ⟨more₂, h₂⟩ := ih (fun j hj => hk j (List.mem_cons_of_mem i hj)) hrest
    exact ⟨more₁ ++ more₂, by rw [h₂, h₁, List.append_assoc]⟩

/-- Settles O59: the events append to the FIFO, so its head and the order behind it stay. -/
theorem transportEventsNeverTakeAByte : Obligations.TransportEventsNeverTakeAByte := by
  intro is s t b rest hk hf h
  obtain ⟨more, hmore⟩ := execAll_events_fifo_append hk h
  exact ⟨more, by rw [hmore, hf, List.cons_append]⟩

/-! ### RXRDY after a receiver reset (R352) -/

/-- RSTRX alone, where it leaves RXRDY (D15). -/
theorem controlWrite_rstrx_only {p : Params} (h : p.rstrxClearsRxrdy = false) (d : Device) :
    controlWrite p 0x4#32 d = Device.recomputeIrq { d with fifo := [], receiverEnabled := false } := by
  have hstep : controlReceiverReset p 0x4#32 d = { d with fifo := [], receiverEnabled := false } := by
    rw [controlReceiverReset, h]
    rfl
  rw [controlWrite, hstep]
  rfl

theorem controlWrite_rxen_only (p : Params) (d : Device) :
    controlWrite p 0x10#32 d = Device.recomputeIrq { d with receiverEnabled := true } := rfl

/-- The device after RSTRX and then RXEN: an enabled receiver over an empty FIFO, with RXRDY as it was. -/
theorem controlWrite_rstrx_rxen {p : Params} (h : p.rstrxClearsRxrdy = false) (d : Device) :
    controlWrite p 0x10#32 (controlWrite p 0x4#32 d)
      = Device.recomputeIrq { d with fifo := [], receiverEnabled := true } := by
  rw [controlWrite_rxen_only, controlWrite_rstrx_only h]
  rfl

/-- A Control write of a running device completes, and the device still runs. -/
theorem exec_wCr_next {s : State} (hr : s.Running) (v : Word) :
    ∃ t, exec (.wCr v) s = .next t ∧ t.Running ∧ t.params = s.params
      ∧ t.dev = controlWrite s.params v s.dev :=
  ⟨_, exec_wCr hr v, exec_running_of_ne_query (exec_wCr hr v) nofun, rfl, rfl⟩

/-- Settles O60: the read finds the FIFO empty, so it only recomputes; `irqFn` is up by its receive half. -/
theorem staleReadyAfterReceiverReset : Obligations.StaleReadyAfterReceiverReset := by
  intro s hr hkeep hready
  obtain ⟨t, hreset, hrt, hparams, hdevt⟩ := exec_wCr_next hr 0x4#32
  obtain ⟨u, henable, hru, -, hdevu⟩ := exec_wCr_next hrt 0x10#32
  rw [hparams, hdevt, controlWrite_rstrx_rxen hkeep] at hdevu
  have hen : u.dev.receiverEnabled = true := by rw [hdevu]; rfl
  have hempty : u.dev.fifo = [] := by rw [hdevu]; rfl
  have hstale : u.dev.receiverReady = true := by rw [hdevu]; exact hready
  have hirq : u.dev.IrqInv := by rw [hdevu]; exact recomputeIrq_irqInv _
  refine ⟨t, u, receiveEmpty u, hreset, henable, exec_rRhr_of_empty hru hen hempty, hempty, hstale, hempty, hstale,
    fun hmask => ?_⟩
  have hmasku : u.dev.receiverReadyIrqEnabled = true := by rw [hdevu]; exact hmask
  have hup : irqFn u.dev = true := (irqFn_iff u.dev).mpr (.inl ⟨hen, hmasku, hstale⟩)
  exact ⟨hirq.trans hup, hup⟩

/-! ### The registers at construction (L2-K) -/

/-- Settles O4: every field a read composes is 0 at construction, and RHR takes the disabled path (R181). -/
theorem everyRegisterReadsZeroAtReset : Obligations.EveryRegisterReadsZeroAtReset := by
  have hr : State.reset.Running := rfl
  intro i hi
  simp only [List.mem_cons, List.not_mem_nil, or_false] at hi
  rcases hi with rfl | rfl | rfl | rfl | rfl | rfl | rfl | rfl | rfl
  · exact exec_rCr hr
  · exact exec_rMr hr
  · exact exec_rIer hr
  · exact exec_rIdr hr
  · exact exec_rImr hr
  · exact exec_rCsr hr
  · exact (exec_rRhr hr).trans (congrArg _ (receiveRead_of_disabled State.reset rfl))
  · exact exec_rThr hr
  · exact exec_rCmpr hr

end Sys2Proof.Machine
end
